-- ==== Sys2Proof/Word.lean ====
section
/-! DEFINITION. The bit-vector types of the block (spec/00_scope.md R6, R10): a value of width n is
`BitVec n`, so that a width mismatch is a type error and never a truncation (R11). -/

namespace Sys2Proof

/-- The addressable unit: one byte of 8 bits (R6). -/
abbrev Byte := BitVec 8

/-- The width of a general-purpose register, of the program counter and of an address (R6). -/
abbrev Word := BitVec 64

/-- The width of a SIMD and floating-point register (R6). -/
abbrev VWord := BitVec 128

/-- One instruction: a fixed 32-bit word (spec/30_encoding.md R110). -/
abbrev InstrWord := BitVec 32

/-- A 5-bit register field (R6, spec/30_encoding.md R131). -/
abbrev RegIdx := BitVec 5

end Sys2Proof
end

