-- ==== Sys2Proof/Machine/Bits.lean ====
section
/-! DEFINITION. The bit-vector layer (spec/00_scope.md R10 to R19): shifts, rotate, extract,
concatenate and the extensions. Addition, subtraction, multiplication and the bitwise operations of
R12 and R13 are Lean's own on `BitVec n`, which wrap modulo 2^n. -/

namespace Sys2Proof.Machine

/-- LSL: logical shift left; zero for amounts of the width or more (R14). -/
def lsl {n : Nat} (a : BitVec n) (k : Nat) : BitVec n := a <<< k

/-- LSR: logical shift right; zero for amounts of the width or more (R14). -/
def lsr {n : Nat} (a : BitVec n) (k : Nat) : BitVec n := a >>> k

/-- ASR: arithmetic shift right; all copies of the sign bit for amounts of the width or more (R14). -/
def asr {n : Nat} (a : BitVec n) (k : Nat) : BitVec n := a.sshiftRight k

/-- ROR: rotate right, the amount taken modulo the width (R15). -/
def ror {n : Nat} (a : BitVec n) (k : Nat) : BitVec n :=
  if k % n = 0 then a else lsr a (k % n) ||| lsl a (n - k % n)

/-- `slice hi lo v` is the extract `v[hi:lo]`, of width `hi - lo + 1` (R16). It takes a proof that
`lo <= hi < width`, found by evaluation where the numbers are literal: a slice out of range does not
typecheck (R11, spec/93_implementation_defined.md U4). -/
def slice {n : Nat} (hi lo : Nat) (v : BitVec n) (_inRange : lo ≤ hi ∧ hi < n := by decide) : BitVec (hi - lo + 1) := v.extractLsb hi lo

/-- `concat a b` is `a:b`, `a` the more significant part (R17). -/
def concat {m n : Nat} (a : BitVec m) (b : BitVec n) : BitVec (m + n) := a ++ b

/-- `zext n a` is `zext_n(a)`, the zero extension of `a : bv(m)` to `n >= m` bits (R18). It takes a proof
that `m <= n`: a narrowing extension does not typecheck. -/
def zext {m : Nat} (n : Nat) (a : BitVec m) (_widens : m ≤ n := by decide) : BitVec n := a.setWidth n

/-- `sext n a` is `sext_n(a)`, the sign extension of `a : bv(m)` to `n >= m` bits (R18), with the same
proof. -/
def sext {m : Nat} (n : Nat) (a : BitVec m) (_widens : m ≤ n := by decide) : BitVec n := a.signExtend n

/-- `elem esize v e` is lane `e` of `v`: `Elem(v, e, esize)`, lane 0 at the least significant end
(spec/40_simd_three_same.md R151). A byte of a value is its lane of size 8. -/
def elem {n : Nat} (esize : Nat) (v : BitVec n) (e : Nat) : BitVec esize := v.extractLsb' (e * esize) esize

/-- `fromLanes esize k f` is the value whose lane `e` is `f e` for `e < k`, lane 0 least significant:
the reassembly of spec/40_simd_three_same.md R151, and, with lanes of 8 bits, the little-endian order of
spec/20_memory.md R71. -/
def fromLanes (esize : Nat) : (k : Nat) → (Nat → BitVec esize) → BitVec (esize * k)
  | 0, _ => 0#0
  | k + 1, f => fromLanes esize k (fun e => f (e + 1)) ++ f 0

end Sys2Proof.Machine
end

