-- ==== Sys2Proof/Syntax.lean ====
section
/-! DEFINITION. The syntax of the block: the instruction-class value the decoder makes of a word
(spec/30_encoding.md R112, R113), the instructions, one constructor for each of the 97 rows of
spec/opcode_table.json (R141), and the sites at which a step can fault (spec/60_exceptions.md R305). -/

namespace Sys2Proof

/-- The class tags, in the decoder's order (R113). `unsupported` is the catch-all (R115). -/
inductive ClassTag where
  | advSimdThreeSame | cryptoAes | uncondBranchImm | condBranchImm | compareBranch
  | uncondBranchReg | hints | ldstRegUnsignedImm | ldstRegImmPost | ldstRegImmPre
  | addSubImm | moveWide | pcRel | addSubShifted | logicalShifted | unsupported
  deriving DecidableEq, Repr

/-- One row of the class table of R113: a word `w` fits when `w AND mask = pattern`. -/
structure ClassRow where
  tag : ClassTag
  mask : InstrWord
  pattern : InstrWord
  deriving DecidableEq, Repr

/-- One row of spec/opcode_table.json (R141): its mnemonic as the table spells it, its mask and its match. -/
structure OpcodeRow where
  mnemonic : String
  mask : InstrWord
  pattern : InstrWord
  deriving DecidableEq, Repr

/-- An instruction-class value: a tag with its raw, width-checked fields, nothing computed from them
(R112). The fields of each class are those of its format rule. -/
inductive InstrClass where
  /-- R116. -/
  | advSimdThreeSame (q u : BitVec 1) (size : BitVec 2) (rm : RegIdx) (opcode : BitVec 5) (rn rd : RegIdx)
  /-- R117. -/
  | cryptoAes (size : BitVec 2) (opcode : BitVec 5) (rn rd : RegIdx)
  /-- R118. -/
  | uncondBranchImm (op : BitVec 1) (imm26 : BitVec 26)
  /-- R119. -/
  | condBranchImm (o1 : BitVec 1) (imm19 : BitVec 19) (o0 : BitVec 1) (cond : BitVec 4)
  /-- R120. -/
  | compareBranch (sf op : BitVec 1) (imm19 : BitVec 19) (rt : RegIdx)
  /-- R121. -/
  | uncondBranchReg (opc : BitVec 4) (op2 : BitVec 5) (op3 : BitVec 6) (rn : RegIdx) (op4 : BitVec 5)
  /-- R122. -/
  | hints (crm : BitVec 4) (op2 : BitVec 3)
  /-- R123. -/
  | ldstRegUnsignedImm (size : BitVec 2) (v : BitVec 1) (opc : BitVec 2) (imm12 : BitVec 12) (rn rt : RegIdx)
  /-- R124. -/
  | ldstRegImmPost (size : BitVec 2) (v : BitVec 1) (opc : BitVec 2) (imm9 : BitVec 9) (rn rt : RegIdx)
  /-- R125. -/
  | ldstRegImmPre (size : BitVec 2) (v : BitVec 1) (opc : BitVec 2) (imm9 : BitVec 9) (rn rt : RegIdx)
  /-- R126. -/
  | addSubImm (sf op sBit sh : BitVec 1) (imm12 : BitVec 12) (rn rd : RegIdx)
  /-- R127. -/
  | moveWide (sf : BitVec 1) (opc hw : BitVec 2) (imm16 : BitVec 16) (rd : RegIdx)
  /-- R128. -/
  | pcRel (op : BitVec 1) (immlo : BitVec 2) (immhi : BitVec 19) (rd : RegIdx)
  /-- R129. -/
  | addSubShifted (sf op sBit : BitVec 1) (shift : BitVec 2) (rm : RegIdx) (imm6 : BitVec 6) (rn rd : RegIdx)
  /-- R130. -/
  | logicalShifted (sf : BitVec 1) (opc shift : BitVec 2) (n : BitVec 1) (rm : RegIdx) (imm6 : BitVec 6) (rn rd : RegIdx)
  /-- R115: a word of no class, carried whole. -/
  | unsupported (word : InstrWord)
  deriving DecidableEq, Repr

/-- The instructions: one constructor for each row of spec/opcode_table.json, in the table's order,
carrying the row's operand fields raw. `Off`, `Post` and `Pre` are the unsigned-offset, post-index and
pre-index forms of a load or store (spec/43_loads_and_stores.md R231). -/
inductive Instr where
  /-- R156: ADD (vector). -/
  | addVector (q : BitVec 1) (size : BitVec 2) (rm rn rd : RegIdx)
  /-- R157: AND (vector). -/
  | andVector (q : BitVec 1) (rm rn rd : RegIdx)
  /-- R158: BIC (vector, register). -/
  | bicVector (q : BitVec 1) (rm rn rd : RegIdx)
  /-- R159: ORR (vector, register). -/
  | orrVector (q : BitVec 1) (rm rn rd : RegIdx)
  /-- R160: ORN (vector). -/
  | ornVector (q : BitVec 1) (rm rn rd : RegIdx)
  /-- R161: EOR (vector). -/
  | eorVector (q : BitVec 1) (rm rn rd : RegIdx)
  /-- R162: BSL. -/
  | bslVector (q : BitVec 1) (rm rn rd : RegIdx)
  /-- R163: BIT. -/
  | bitVector (q : BitVec 1) (rm rn rd : RegIdx)
  /-- R164: BIF. -/
  | bifVector (q : BitVec 1) (rm rn rd : RegIdx)
  /-- R184: AESE. -/
  | aese (rn rd : RegIdx)
  /-- R185: AESD. -/
  | aesd (rn rd : RegIdx)
  /-- R186: AESMC. -/
  | aesmc (rn rd : RegIdx)
  /-- R187: AESIMC. -/
  | aesimc (rn rd : RegIdx)
  /-- R203: B. -/
  | b (imm26 : BitVec 26)
  /-- R204: BL. -/
  | bl (imm26 : BitVec 26)
  /-- R205: B.cond. -/
  | bCond (imm19 : BitVec 19) (cond : BitVec 4)
  /-- R206: CBZ. -/
  | cbz (sf : BitVec 1) (imm19 : BitVec 19) (rt : RegIdx)
  /-- R207: CBNZ. -/
  | cbnz (sf : BitVec 1) (imm19 : BitVec 19) (rt : RegIdx)
  /-- R208: BR. -/
  | br (rn : RegIdx)
  /-- R209: BLR. -/
  | blr (rn : RegIdx)
  /-- R210: RET. -/
  | ret (rn : RegIdx)
  /-- R211: NOP. -/
  | nop
  /-- R236: STRB, unsigned offset. -/
  | strbOff (imm12 : BitVec 12) (rn rt : RegIdx)
  /-- R237: LDRB, unsigned offset. -/
  | ldrbOff (imm12 : BitVec 12) (rn rt : RegIdx)
  /-- R238: STRH, unsigned offset. -/
  | strhOff (imm12 : BitVec 12) (rn rt : RegIdx)
  /-- R239: LDRH, unsigned offset. -/
  | ldrhOff (imm12 : BitVec 12) (rn rt : RegIdx)
  /-- R240: STR (32-bit), unsigned offset. -/
  | strWOff (imm12 : BitVec 12) (rn rt : RegIdx)
  /-- R241: LDR (32-bit), unsigned offset. -/
  | ldrWOff (imm12 : BitVec 12) (rn rt : RegIdx)
  /-- R242: STR (64-bit), unsigned offset. -/
  | strXOff (imm12 : BitVec 12) (rn rt : RegIdx)
  /-- R243: LDR (64-bit), unsigned offset. -/
  | ldrXOff (imm12 : BitVec 12) (rn rt : RegIdx)
  /-- R244: STR (B), SIMD&FP, unsigned offset. -/
  | strSimdBOff (imm12 : BitVec 12) (rn rt : RegIdx)
  /-- R245: LDR (B), SIMD&FP, unsigned offset. -/
  | ldrSimdBOff (imm12 : BitVec 12) (rn rt : RegIdx)
  /-- R246: STR (H), SIMD&FP, unsigned offset. -/
  | strSimdHOff (imm12 : BitVec 12) (rn rt : RegIdx)
  /-- R247: LDR (H), SIMD&FP, unsigned offset. -/
  | ldrSimdHOff (imm12 : BitVec 12) (rn rt : RegIdx)
  /-- R248: STR (S), SIMD&FP, unsigned offset. -/
  | strSimdSOff (imm12 : BitVec 12) (rn rt : RegIdx)
  /-- R249: LDR (S), SIMD&FP, unsigned offset. -/
  | ldrSimdSOff (imm12 : BitVec 12) (rn rt : RegIdx)
  /-- R250: STR (D), SIMD&FP, unsigned offset. -/
  | strSimdDOff (imm12 : BitVec 12) (rn rt : RegIdx)
  /-- R251: LDR (D), SIMD&FP, unsigned offset. -/
  | ldrSimdDOff (imm12 : BitVec 12) (rn rt : RegIdx)
  /-- R252: STR (Q), SIMD&FP, unsigned offset. -/
  | strSimdQOff (imm12 : BitVec 12) (rn rt : RegIdx)
  /-- R253: LDR (Q), SIMD&FP, unsigned offset. -/
  | ldrSimdQOff (imm12 : BitVec 12) (rn rt : RegIdx)
  /-- R236: STRB, post-index. -/
  | strbPost (imm9 : BitVec 9) (rn rt : RegIdx)
  /-- R237: LDRB, post-index. -/
  | ldrbPost (imm9 : BitVec 9) (rn rt : RegIdx)
  /-- R238: STRH, post-index. -/
  | strhPost (imm9 : BitVec 9) (rn rt : RegIdx)
  /-- R239: LDRH, post-index. -/
  | ldrhPost (imm9 : BitVec 9) (rn rt : RegIdx)
  /-- R240: STR (32-bit), post-index. -/
  | strWPost (imm9 : BitVec 9) (rn rt : RegIdx)
  /-- R241: LDR (32-bit), post-index. -/
  | ldrWPost (imm9 : BitVec 9) (rn rt : RegIdx)
  /-- R242: STR (64-bit), post-index. -/
  | strXPost (imm9 : BitVec 9) (rn rt : RegIdx)
  /-- R243: LDR (64-bit), post-index. -/
  | ldrXPost (imm9 : BitVec 9) (rn rt : RegIdx)
  /-- R244: STR (B), SIMD&FP, post-index. -/
  | strSimdBPost (imm9 : BitVec 9) (rn rt : RegIdx)
  /-- R245: LDR (B), SIMD&FP, post-index. -/
  | ldrSimdBPost (imm9 : BitVec 9) (rn rt : RegIdx)
  /-- R246: STR (H), SIMD&FP, post-index. -/
  | strSimdHPost (imm9 : BitVec 9) (rn rt : RegIdx)
  /-- R247: LDR (H), SIMD&FP, post-index. -/
  | ldrSimdHPost (imm9 : BitVec 9) (rn rt : RegIdx)
  /-- R248: STR (S), SIMD&FP, post-index. -/
  | strSimdSPost (imm9 : BitVec 9) (rn rt : RegIdx)
  /-- R249: LDR (S), SIMD&FP, post-index. -/
  | ldrSimdSPost (imm9 : BitVec 9) (rn rt : RegIdx)
  /-- R250: STR (D), SIMD&FP, post-index. -/
  | strSimdDPost (imm9 : BitVec 9) (rn rt : RegIdx)
  /-- R251: LDR (D), SIMD&FP, post-index. -/
  | ldrSimdDPost (imm9 : BitVec 9) (rn rt : RegIdx)
  /-- R252: STR (Q), SIMD&FP, post-index. -/
  | strSimdQPost (imm9 : BitVec 9) (rn rt : RegIdx)
  /-- R253: LDR (Q), SIMD&FP, post-index. -/
  | ldrSimdQPost (imm9 : BitVec 9) (rn rt : RegIdx)
  /-- R236: STRB, pre-index. -/
  | strbPre (imm9 : BitVec 9) (rn rt : RegIdx)
  /-- R237: LDRB, pre-index. -/
  | ldrbPre (imm9 : BitVec 9) (rn rt : RegIdx)
  /-- R238: STRH, pre-index. -/
  | strhPre (imm9 : BitVec 9) (rn rt : RegIdx)
  /-- R239: LDRH, pre-index. -/
  | ldrhPre (imm9 : BitVec 9) (rn rt : RegIdx)
  /-- R240: STR (32-bit), pre-index. -/
  | strWPre (imm9 : BitVec 9) (rn rt : RegIdx)
  /-- R241: LDR (32-bit), pre-index. -/
  | ldrWPre (imm9 : BitVec 9) (rn rt : RegIdx)
  /-- R242: STR (64-bit), pre-index. -/
  | strXPre (imm9 : BitVec 9) (rn rt : RegIdx)
  /-- R243: LDR (64-bit), pre-index. -/
  | ldrXPre (imm9 : BitVec 9) (rn rt : RegIdx)
  /-- R244: STR (B), SIMD&FP, pre-index. -/
  | strSimdBPre (imm9 : BitVec 9) (rn rt : RegIdx)
  /-- R245: LDR (B), SIMD&FP, pre-index. -/
  | ldrSimdBPre (imm9 : BitVec 9) (rn rt : RegIdx)
  /-- R246: STR (H), SIMD&FP, pre-index. -/
  | strSimdHPre (imm9 : BitVec 9) (rn rt : RegIdx)
  /-- R247: LDR (H), SIMD&FP, pre-index. -/
  | ldrSimdHPre (imm9 : BitVec 9) (rn rt : RegIdx)
  /-- R248: STR (S), SIMD&FP, pre-index. -/
  | strSimdSPre (imm9 : BitVec 9) (rn rt : RegIdx)
  /-- R249: LDR (S), SIMD&FP, pre-index. -/
  | ldrSimdSPre (imm9 : BitVec 9) (rn rt : RegIdx)
  /-- R250: STR (D), SIMD&FP, pre-index. -/
  | strSimdDPre (imm9 : BitVec 9) (rn rt : RegIdx)
  /-- R251: LDR (D), SIMD&FP, pre-index. -/
  | ldrSimdDPre (imm9 : BitVec 9) (rn rt : RegIdx)
  /-- R252: STR (Q), SIMD&FP, pre-index. -/
  | strSimdQPre (imm9 : BitVec 9) (rn rt : RegIdx)
  /-- R253: LDR (Q), SIMD&FP, pre-index. -/
  | ldrSimdQPre (imm9 : BitVec 9) (rn rt : RegIdx)
  /-- R263: ADD (immediate). -/
  | addImm (sf sh : BitVec 1) (imm12 : BitVec 12) (rn rd : RegIdx)
  /-- R264: ADDS (immediate). -/
  | addsImm (sf sh : BitVec 1) (imm12 : BitVec 12) (rn rd : RegIdx)
  /-- R265: SUB (immediate). -/
  | subImm (sf sh : BitVec 1) (imm12 : BitVec 12) (rn rd : RegIdx)
  /-- R266: SUBS (immediate). -/
  | subsImm (sf sh : BitVec 1) (imm12 : BitVec 12) (rn rd : RegIdx)
  /-- R268: MOVN. -/
  | movn (sf : BitVec 1) (hw : BitVec 2) (imm16 : BitVec 16) (rd : RegIdx)
  /-- R269: MOVZ. -/
  | movz (sf : BitVec 1) (hw : BitVec 2) (imm16 : BitVec 16) (rd : RegIdx)
  /-- R270: MOVK. -/
  | movk (sf : BitVec 1) (hw : BitVec 2) (imm16 : BitVec 16) (rd : RegIdx)
  /-- R272: ADR. -/
  | adr (immlo : BitVec 2) (immhi : BitVec 19) (rd : RegIdx)
  /-- R273: ADRP. -/
  | adrp (immlo : BitVec 2) (immhi : BitVec 19) (rd : RegIdx)
  /-- R283: ADD (shifted register). -/
  | addShifted (sf : BitVec 1) (shift : BitVec 2) (rm : RegIdx) (imm6 : BitVec 6) (rn rd : RegIdx)
  /-- R284: ADDS (shifted register). -/
  | addsShifted (sf : BitVec 1) (shift : BitVec 2) (rm : RegIdx) (imm6 : BitVec 6) (rn rd : RegIdx)
  /-- R285: SUB (shifted register). -/
  | subShifted (sf : BitVec 1) (shift : BitVec 2) (rm : RegIdx) (imm6 : BitVec 6) (rn rd : RegIdx)
  /-- R286: SUBS (shifted register). -/
  | subsShifted (sf : BitVec 1) (shift : BitVec 2) (rm : RegIdx) (imm6 : BitVec 6) (rn rd : RegIdx)
  /-- R289: AND (shifted register). -/
  | andShifted (sf : BitVec 1) (shift : BitVec 2) (rm : RegIdx) (imm6 : BitVec 6) (rn rd : RegIdx)
  /-- R290: BIC (shifted register). -/
  | bicShifted (sf : BitVec 1) (shift : BitVec 2) (rm : RegIdx) (imm6 : BitVec 6) (rn rd : RegIdx)
  /-- R291: ORR (shifted register). -/
  | orrShifted (sf : BitVec 1) (shift : BitVec 2) (rm : RegIdx) (imm6 : BitVec 6) (rn rd : RegIdx)
  /-- R292: ORN (shifted register). -/
  | ornShifted (sf : BitVec 1) (shift : BitVec 2) (rm : RegIdx) (imm6 : BitVec 6) (rn rd : RegIdx)
  /-- R293: EOR (shifted register). -/
  | eorShifted (sf : BitVec 1) (shift : BitVec 2) (rm : RegIdx) (imm6 : BitVec 6) (rn rd : RegIdx)
  /-- R294: EON (shifted register). -/
  | eonShifted (sf : BitVec 1) (shift : BitVec 2) (rm : RegIdx) (imm6 : BitVec 6) (rn rd : RegIdx)
  /-- R295: ANDS (shifted register). -/
  | andsShifted (sf : BitVec 1) (shift : BitVec 2) (rm : RegIdx) (imm6 : BitVec 6) (rn rd : RegIdx)
  /-- R296: BICS (shifted register). -/
  | bicsShifted (sf : BitVec 1) (shift : BitVec 2) (rm : RegIdx) (imm6 : BitVec 6) (rn rd : RegIdx)
  deriving DecidableEq, Repr

/-- The two fault kinds, and no third (spec/60_exceptions.md R300). -/
inductive FaultKind where
  /-- A well-formed-looking instruction whose field combination is reserved or invalid. -/
  | illegal
  /-- A recognised but unhandled opcode, or a word of no class (R301). -/
  | unimplemented
  deriving DecidableEq, Repr

/-- The sites that can raise a fault: the causes of spec/60_exceptions.md R305, one for each rule that
raises. A site is the argument of the message parameter MSG (R304). -/
inductive FaultSite where
  /-- Cause 1, R302: pc not a multiple of 4, if PC_ALIGN_CHECK. -/
  | pcAlign
  /-- Cause 2, R301: a word of no class. -/
  | unsupportedWord
  /-- Cause 3, spec/40_simd_three_same.md R165. -/
  | threeSameUnmatched
  /-- Cause 4, spec/40_simd_three_same.md R156. -/
  | addVectorReserved
  /-- Cause 5, spec/41_crypto_aes.md R194. -/
  | aesUnmatched
  /-- Cause 6, spec/42_branches_and_system.md R213. -/
  | condBranchUnmatched
  /-- Cause 7, spec/42_branches_and_system.md R214. -/
  | branchRegUnmatched
  /-- Cause 8, spec/42_branches_and_system.md R212. -/
  | hintUnmatched
  /-- Cause 9, spec/43_loads_and_stores.md R254. -/
  | ldstUnmatched
  /-- Cause 10, spec/43_loads_and_stores.md R233 (a). -/
  | ldstSimdSizeReserved
  /-- Cause 11, spec/43_loads_and_stores.md R233 (b). -/
  | ldstWritebackConflict
  /-- Cause 12, spec/20_memory.md R78. -/
  | spAlign
  /-- Cause 13, spec/44_dp_immediate.md R267 (a). -/
  | moveWideOpcReserved
  /-- Cause 14, spec/44_dp_immediate.md R267 (b). -/
  | moveWideHwReserved
  /-- Cause 15, spec/45_dp_register.md R280 (a). -/
  | addSubShiftReserved
  /-- Cause 16, spec/45_dp_register.md R280 (b). -/
  | addSubAmountReserved
  /-- Cause 16, spec/45_dp_register.md R287. -/
  | logicalAmountReserved
  deriving DecidableEq, Repr

/-- What a word decodes to: an instruction of the table, or a rejection by name, whose execution raises
the fault of that site (spec/30_encoding.md R133). -/
inductive Decoded where
  | instr (i : Instr)
  | reject (site : FaultSite)
  deriving DecidableEq, Repr

/-- The eighteen admitted load and store operations of spec/43_loads_and_stores.md R230, before their
addressing form. -/
inductive LdstOp where
  | strb | ldrb | strh | ldrh | strW | ldrW | strX | ldrX
  | strSimdB | ldrSimdB | strSimdH | ldrSimdH | strSimdS | ldrSimdS | strSimdD | ldrSimdD | strSimdQ | ldrSimdQ
  deriving DecidableEq, Repr

/-- The addressing form of a load or store with its raw offset field (spec/43_loads_and_stores.md R231). -/
inductive AddrForm where
  | unsignedOffset (imm12 : BitVec 12)
  | postIndex (imm9 : BitVec 9)
  | preIndex (imm9 : BitVec 9)
  deriving DecidableEq, Repr

end Sys2Proof
end

