-- ==== Sys2Proof/Config.lean ====
section
/-! DEFINITION. The open parameters of the block (spec/00_scope.md R7) as constants no proof can
evaluate, and the one value this model fixes for memory that nothing has written. -/

namespace Sys2Proof.Config

/-- PC_ALIGN_CHECK: whether a fetch at a pc that is not a multiple of 4 faults (spec/20_memory.md R77,
spec/92_eei_decisions.md D10: OPEN). Opaque: every statement holds for both values. Log entry 8. -/
opaque pcAlignCheck : Bool

/-- SP_ALIGN_CHECK: whether a load or store whose base is SP faults when SP is not a multiple of 16
(spec/20_memory.md R78, spec/92_eei_decisions.md D11: OPEN). Opaque. Log entry 9. -/
opaque spAlignCheck : Bool

/-- MSG: the text of a fault message, a function of the fault site (spec/60_exceptions.md R304,
spec/92_eei_decisions.md D5: OPEN). Opaque: no property can depend on the text. Log entry 10. -/
opaque msg : FaultSite → String

/-- What an address that memory does not list reads as. DESIGN CHOICE, unsafe: spec/10_state.md R55
leaves the byte unspecified. Log entry 5. -/
def unlistedByte : Byte := 0#8

end Sys2Proof.Config
end

