-- ==== Sys2Proof/Machine/State.lean ====
section
/-! DEFINITION. The architectural state (spec/10_state.md R30, "exactly these components, and nothing
else is state") as plain data, the outcomes that are not a next state, and the state after reset. -/

namespace Sys2Proof.Machine

/-- The four processor flags, one bit each (spec/10_state.md R41). `v` is the spec's `V_flag`. -/
structure Flags where
  n : Bool
  z : Bool
  c : Bool
  v : Bool
  deriving DecidableEq, Repr

/-- The error slot: `None`, `Illegal(message)` or `Unimplemented(message)` (spec/10_state.md R47). -/
inductive ErrSlot where
  | none
  | illegal (message : String)
  | unimplemented (message : String)
  deriving DecidableEq, Repr

/-- The state. `mem` is the byte map of R46 as a list of (address, byte) pairs, addresses strictly
rising, no entry equal to `Config.unlistedByte`; every map of 2^64 bytes is such a list (log entry 14). -/
structure State where
  /-- X0 to X30 (R31). -/
  x : Vector Word 31
  /-- SP, a cell of its own (R32). -/
  sp : Word
  /-- V0 to V31 (R44). -/
  v : Vector VWord 32
  /-- The program counter (R37). -/
  pc : Word
  /-- N, Z, C and V_flag (R41). -/
  flags : Flags
  /-- Memory (R46). -/
  mem : List Host.Cell
  /-- The error slot (R47). -/
  err : ErrSlot
  deriving DecidableEq, Repr

/-- Why the machine can stop outside the error slot. It has NO constructor: the two fault kinds of
spec/60_exceptions.md R300 are values of the error slot, so that a faulting step has a next state (R303),
and no other fault exists (R305, R314, R315, R362). Log entries 11 and 12. Safe. -/
inductive Fault : Type
  deriving DecidableEq, Repr

/-- Why the model gives no outcome. -/
inductive Refusal where
  /-- Raised by `exec` for an instruction without a meaning; no arm of this model raises it. Safe: no
  next state is claimed. -/
  | notModelled (mnemonic : String)
  /-- Raised by `step` on a state whose error slot is set: the state is terminal and stepping it is a
  contract violation, not a third fault kind (spec/60_exceptions.md R308,
  spec/93_implementation_defined.md U5). Safe: no next state is claimed. Log entry 12. -/
  | stepOnFaultedState
  deriving DecidableEq, Repr

/-- The outcome of a meaning or of a step. -/
abbrev Result := Host.Outcome State Fault Refusal

/-- The state after reset. The spec gives `err = None` and leaves everything else to the host's snapshot
(spec/10_state.md R55, spec/70_reset_and_hazards.md R340): the zeros are DESIGN CHOICES, unsafe, log
entries 1 to 5. Any other initial state is a `State` too, and every statement ranges over all of them. -/
def State.reset : State where
  x := Vector.replicate 31 0#64
  sp := 0#64
  v := Vector.replicate 32 0#128
  pc := 0#64
  flags := ⟨false, false, false, false⟩
  mem := []
  err := .none

end Sys2Proof.Machine
end

