-- ==== Sys2Proof/Machine/Ops.lean ====
section
/-! DEFINITION. The named operations over registers and memory (spec/00_scope.md R20), and the raising of
a fault, the block's one exception mechanism (spec/60_exceptions.md R303). -/

namespace Sys2Proof.Machine

/-! ## Program counter and flags -/

/-- `pc <- t` (spec/10_state.md R37). -/
def State.setPc (s : State) (t : Word) : State := { s with pc := t }

/-- `pc <- pc + 4`, wrapping (R38, R39). -/
def State.advance (s : State) : State := s.setPc (s.pc + 4#64)

/-- `NZCV <- f`, all four at once (R41). -/
def State.setFlags (s : State) (f : Flags) : State := { s with flags := f }

/-! ## General-purpose registers -/

/-- `X[i]`, the zero-register view: index 31 reads 0 (R33). -/
def State.readX (s : State) (i : RegIdx) : Word :=
  if h : i.toNat < 31 then s.x[i.toNat] else 0#64

/-- `X[i] <- v`: index 31 discards the write (R33). -/
def State.writeX (s : State) (i : RegIdx) (v : Word) : State :=
  if h : i.toNat < 31 then { s with x := s.x.set i.toNat v h } else s

/-- `XSP[i]`, the stack-pointer view: index 31 is the SP cell (R34). -/
def State.readXSP (s : State) (i : RegIdx) : Word :=
  if i = 31#5 then s.sp else s.readX i

/-- `XSP[i] <- v` (R34). -/
def State.writeXSP (s : State) (i : RegIdx) (v : Word) : State :=
  if i = 31#5 then { s with sp := v } else s.writeX i v

/-- The low `w` bits of `X[i]`, `w` at most 64: `X[i]` for `w = 64`, `W[i]` for `w = 32` (R35). -/
def State.gpr (s : State) (w : Nat) (i : RegIdx) (_fits : w ≤ 64 := by decide) : BitVec w := (s.readX i).setWidth w

/-- A write of `w` bits, at most 64, to `X[i]`: the bits above become 0 (R35). -/
def State.setGpr (s : State) {w : Nat} (i : RegIdx) (v : BitVec w) (fits : w ≤ 64 := by decide) : State :=
  s.writeX i (zext 64 v fits)

/-- The low `w` bits of `XSP[i]`, `w` at most 64: `XSP[i]` for `w = 64`, `WSP[i]` for `w = 32` (R35). -/
def State.gprSp (s : State) (w : Nat) (i : RegIdx) (_fits : w ≤ 64 := by decide) : BitVec w :=
  (s.readXSP i).setWidth w

/-- A write of `w` bits, at most 64, to `XSP[i]`: the bits above become 0 (R35). -/
def State.setGprSp (s : State) {w : Nat} (i : RegIdx) (v : BitVec w) (fits : w ≤ 64 := by decide) : State :=
  s.writeXSP i (zext 64 v fits)

/-! ## SIMD registers -/

/-- `V[i]`; index 31 is an ordinary register (R44). -/
def State.readV (s : State) (i : RegIdx) : VWord := s.v[i.toNat]'(i.isLt)

/-- `V[i] <- v` (R44). -/
def State.writeV (s : State) (i : RegIdx) (v : VWord) : State :=
  { s with v := s.v.set i.toNat v i.isLt }

/-- `Vpart(i, w)`: the low `w` bits of `V[i]`, `w` at most 128 (R45). -/
def State.vpart (s : State) (w : Nat) (i : RegIdx) (_fits : w ≤ 128 := by decide) : BitVec w := (s.readV i).setWidth w

/-- `Vpart(i, w) <- v`: the bits above the part become 0 (R45). -/
def State.setVpart (s : State) {w : Nat} (i : RegIdx) (v : BitVec w) (fits : w ≤ 128 := by decide) : State :=
  s.writeV i (zext 128 v fits)

/-! ## Memory -/

/-- The byte a memory list holds at an address; an unlisted address reads `Config.unlistedByte`. -/
def Memory.read : List Host.Cell → Nat → Byte
  | [], _ => Config.unlistedByte
  | (k, b) :: rest, a => if k = a then b else Memory.read rest a

/-- Write one byte, keeping the list in its canonical form. -/
def Memory.write : List Host.Cell → Nat → Byte → List Host.Cell
  | [], a, b => if b = Config.unlistedByte then [] else [(a, b)]
  | (k, c) :: rest, a, b =>
    if a < k then
      if b = Config.unlistedByte then (k, c) :: rest else (a, b) :: (k, c) :: rest
    else if a = k then
      if b = Config.unlistedByte then rest else (a, b) :: rest
    else (k, c) :: Memory.write rest a b

/-- The canonical form from address `lo` upwards: addresses strictly rising and below 2^64, no entry
equal to what an unlisted address reads as. -/
def Memory.wfFrom : Nat → List Host.Cell → Bool
  | _, [] => true
  | lo, (k, b) :: rest =>
    decide (lo ≤ k) && decide (k < 2 ^ 64) && (b != Config.unlistedByte) && Memory.wfFrom (k + 1) rest

/-- The canonical form of a memory list. -/
def Memory.wf (m : List Host.Cell) : Bool := Memory.wfFrom 0 m

/-- `mem(a)` (spec/20_memory.md R70). -/
def State.readByte (s : State) (a : Word) : Byte := Memory.read s.mem a.toNat

/-- `mem(a) <- b` (R70). -/
def State.writeByte (s : State) (a : Word) (b : Byte) : State :=
  { s with mem := Memory.write s.mem a.toNat b }

/-- `MemRead(addr, n)`: `n` bytes little-endian, the address sums wrapping (R71, R75). -/
def State.memRead (s : State) (addr : Word) (n : Nat) : BitVec (8 * n) :=
  fromLanes 8 n (fun i => s.readByte (addr + BitVec.ofNat 64 i))

/-- Store bytes `k`, `k + 1`, … of a value at `addr + k`, `addr + k + 1`, …, `n` of them. -/
def State.storeBytes (s : State) (addr : Word) (byteOf : Nat → Byte) : Nat → State
  | 0 => s
  | n + 1 => (s.storeBytes addr byteOf n).writeByte (addr + BitVec.ofNat 64 n) (byteOf n)

/-- `MemWrite(addr, n, v)`: byte `i` of `v` at `addr + i`, the sums wrapping (R72, R75). -/
def State.memWrite (s : State) (addr : Word) (n : Nat) (v : BitVec (8 * n)) : State :=
  s.storeBytes addr (fun i => elem 8 v i) n

/-- `word_at(pc, state) = MemRead(pc, 4)`: instruction fetch reads the memory that loads read
(R74, R95). -/
def State.wordAt (s : State) (addr : Word) : InstrWord := s.memRead addr 4

/-! ## Taking a fault -/

/-- The kind each fault site raises (spec/60_exceptions.md R305). -/
def faultKind : FaultSite → FaultKind
  | .pcAlign => .illegal
  | .unsupportedWord => .unimplemented
  | .threeSameUnmatched => .unimplemented
  | .addVectorReserved => .illegal
  | .aesUnmatched => .unimplemented
  | .condBranchUnmatched => .unimplemented
  | .branchRegUnmatched => .unimplemented
  | .hintUnmatched => .unimplemented
  | .ldstUnmatched => .unimplemented
  | .ldstSimdSizeReserved => .illegal
  | .ldstWritebackConflict => .illegal
  | .spAlign => .illegal
  | .moveWideOpcReserved => .illegal
  | .moveWideHwReserved => .illegal
  | .addSubShiftReserved => .illegal
  | .addSubAmountReserved => .illegal
  | .logicalAmountReserved => .illegal

/-- The error slot's content for a site: its kind with the message `MSG(site)` (R304). -/
def errOf (site : FaultSite) : ErrSlot :=
  match faultKind site with
  | .illegal => .illegal (Config.msg site)
  | .unimplemented => .unimplemented (Config.msg site)

/-- The state after a fault: the state before with only the error slot set; pc is not advanced
(R303). -/
def State.faulted (s : State) (site : FaultSite) : State := { s with err := errOf site }

/-- `raise`: the ONE taking of a fault. It saves nothing and transfers control nowhere, and there is no
return from it (R309). -/
def raise (site : FaultSite) (s : State) : Result := .next (s.faulted site)

/-! ## Fetch -/

/-- The pc alignment test of R302: `pc[1:0] != 0b00` under PC_ALIGN_CHECK. -/
def pcMisaligned (s : State) : Bool := (s.pc.extractLsb' 0 2 != 0#2) && Config.pcAlignCheck

end Sys2Proof.Machine
end

