-- ==== Sys2Proof/Machine/Operands.lean ====
section
/-! DEFINITION. Every operand form: operand widths, immediates (spec/30_encoding.md R132), shifted
registers (spec/00_scope.md R22) and the addresses of loads and stores (spec/43_loads_and_stores.md
R231). -/

namespace Sys2Proof.Machine

/-- `datasize` of a general-purpose instruction: 64 when `sf = 1`, 32 when `sf = 0`
(spec/30_encoding.md R131). -/
def datasize (sf : BitVec 1) : Nat := if sf = 1#1 then 64 else 32

/-- An operand fits a general-purpose register. -/
theorem datasize_le_64 (sf : BitVec 1) : datasize sf ≤ 64 := by unfold datasize; split <;> decide

/-- An operand has 32 bits at least, so that every immediate is extended to it and never narrowed. -/
theorem le_datasize {m : Nat} (h : m ≤ 32) (sf : BitVec 1) : m ≤ datasize sf := by
  unfold datasize; split <;> omega

/-- `datasize` of a three-same vector instruction: 128 when `Q = 1`, 64 when `Q = 0`
(spec/40_simd_three_same.md R150). -/
def vdatasize (q : BitVec 1) : Nat := if q = 1#1 then 128 else 64

/-- A vector operand fits a SIMD register. -/
theorem vdatasize_le_128 (q : BitVec 1) : vdatasize q ≤ 128 := by unfold vdatasize; split <;> decide

/-- `esize = 8 << size` (spec/40_simd_three_same.md R150). -/
def esizeOf (size : BitVec 2) : Nat := 8 <<< size.toNat

/-- The lanes of a vector operand fit a SIMD register. -/
theorem lanes_le_128 (q : BitVec 1) (size : BitVec 2) : esizeOf size * (vdatasize q / esizeOf size) ≤ 128 :=
  Nat.le_trans (Nat.mul_div_le _ _) (vdatasize_le_128 q)

/-- An access of `2^scale` bytes, `scale` at most 3, fits a general-purpose register
(spec/43_loads_and_stores.md R230). -/
theorem gprAccess_le_64 {scale : Nat} (h : scale ≤ 3) : 8 * 2 ^ scale ≤ 64 :=
  Nat.mul_le_mul_left 8 (Nat.pow_le_pow_right (n := 2) (by decide) h)

/-- An access of `2^scale` bytes, `scale` at most 4, fits a SIMD register
(spec/43_loads_and_stores.md R230). -/
theorem simdAccess_le_128 {scale : Nat} (h : scale ≤ 4) : 8 * 2 ^ scale ≤ 128 :=
  Nat.mul_le_mul_left 8 (Nat.pow_le_pow_right (n := 2) (by decide) h)

/-- The offset of B and BL: `sext_64(imm26 : 0b00)`. -/
def offset26 (imm26 : BitVec 26) : Word := sext 64 (concat imm26 0b00#2)

/-- The offset of B.cond, CBZ and CBNZ: `sext_64(imm19 : 0b00)`. -/
def offset19 (imm19 : BitVec 19) : Word := sext 64 (concat imm19 0b00#2)

/-- The immediate of ADD, ADDS, SUB and SUBS (immediate), shifted by 12 when `sh = 1`
(spec/44_dp_immediate.md R260). -/
def addSubImmediate (sf sh : BitVec 1) (imm12 : BitVec 12) : BitVec (datasize sf) :=
  if sh = 0#1 then zext (datasize sf) imm12 (le_datasize (by decide) sf)
  else zext (datasize sf) (concat imm12 0#12) (le_datasize (by decide) sf)

/-- `pos = 16 * nat(hw)` of the move-wide instructions (spec/44_dp_immediate.md R267). -/
def movePos (hw : BitVec 2) : Nat := 16 * hw.toNat

/-- `result[pos+15 : pos] = imm16`, the other bits of `v` kept. -/
def insert16 {sf : BitVec 1} (v : BitVec (datasize sf)) (pos : Nat) (imm16 : BitVec 16) : BitVec (datasize sf) :=
  (v &&& ~~~(lsl (zext (datasize sf) (0xFFFF#16) (le_datasize (by decide) sf)) pos)) |||
    lsl (zext (datasize sf) imm16 (le_datasize (by decide) sf)) pos

/-- The offset of ADR: `sext_64(immhi : immlo)`. -/
def adrOffset (immlo : BitVec 2) (immhi : BitVec 19) : Word := sext 64 (concat immhi immlo)

/-- The offset of ADRP: `sext_64(immhi : immlo : Zeros(12))`. -/
def adrpOffset (immlo : BitVec 2) (immhi : BitVec 19) : Word := sext 64 (concat (concat immhi immlo) 0#12)

/-- The base of ADRP: `pc[63:12] : Zeros(12)` (spec/44_dp_immediate.md R273). -/
def adrpBase (pc : Word) : Word := concat (slice 63 12 pc) 0#12

/-- `ShiftReg(v, type, amount)` (R22). -/
def shiftReg {w : Nat} (v : BitVec w) (type : BitVec 2) (amount : Nat) : BitVec w :=
  if type = 0b00#2 then lsl v amount
  else if type = 0b01#2 then lsr v amount
  else if type = 0b10#2 then asr v amount
  else ror v amount

/-- The second operand of a shifted-register instruction: `ShiftReg` of the low `datasize` bits of `X[m]`
by `nat(imm6)` (spec/45_dp_register.md R281, R282). -/
def shiftedOperand (sf : BitVec 1) (s : State) (shift : BitVec 2) (rm : RegIdx) (imm6 : BitVec 6) :
    BitVec (datasize sf) :=
  shiftReg (s.gpr (datasize sf) rm (datasize_le_64 sf)) shift imm6.toNat

/-- The address of a load or store, and the value written back to its base, none in the
unsigned-offset form; `scale` is the binary logarithm of the access size (R231). -/
def ldstAddress (scale : Nat) (form : AddrForm) (rn : RegIdx) (s : State) : Word × Option Word :=
  match form with
  | .unsignedOffset imm12 => (s.readXSP rn + lsl (zext 64 imm12) scale, none)
  | .preIndex imm9 => (s.readXSP rn + sext 64 imm9, some (s.readXSP rn + sext 64 imm9))
  | .postIndex imm9 => (s.readXSP rn, some (s.readXSP rn + sext 64 imm9))

/-- The form writes its base back. -/
def isWriteback : AddrForm → Bool
  | .unsignedOffset _ => false
  | .preIndex _ => true
  | .postIndex _ => true

/-- The base register takes the write-back value, when there is one (R232 step 7). -/
def writeBack (rn : RegIdx) (wb : Option Word) (s : State) : State :=
  match wb with
  | none => s
  | some value => s.writeXSP rn value

/-- The stack-pointer alignment test of spec/20_memory.md R78, on SP before the offset is added. -/
def spMisaligned (rn : RegIdx) (s : State) : Bool :=
  (rn == 31#5) && (s.sp.extractLsb' 0 4 != 0#4) && Config.spAlignCheck

end Sys2Proof.Machine
end

