-- ==== Sys2Proof/Machine/Flags.lean ====
section
/-! DEFINITION. Every flag computation of the spec: `AddWithCarry` (spec/00_scope.md R21), the flags of
the logical instructions (spec/45_dp_register.md R288) and `ConditionHolds` (spec/10_state.md R43). -/

namespace Sys2Proof.Machine

/-- `AddWithCarry(x, y, cin)`: the exact unsigned and signed sums, narrowed once; carry and overflow are
where the narrowed result differs from them (R21). -/
def addWithCarry {n : Nat} (x y : BitVec n) (cin : Bool) : BitVec n × Flags :=
  let usum : Nat := x.toNat + y.toNat + cin.toNat
  let ssum : Int := x.toInt + y.toInt + cin.toNat
  let result : BitVec n := BitVec.ofNat n usum
  (result, ⟨result.msb, result == 0#n, result.toNat != usum, result.toInt != ssum⟩)

/-- The flags of ANDS and BICS: N and Z from the result, C and V clear (R288). -/
def logicalFlags {n : Nat} (result : BitVec n) : Flags := ⟨result.msb, result == 0#n, false, false⟩

/-- The condition named by `cond[3:1]` (R43). -/
def baseCondition (f : Flags) (c : BitVec 3) : Bool :=
  if c = 0b000#3 then f.z
  else if c = 0b001#3 then f.c
  else if c = 0b010#3 then f.n
  else if c = 0b011#3 then f.v
  else if c = 0b100#3 then f.c && !f.z
  else if c = 0b101#3 then f.n == f.v
  else if c = 0b110#3 then f.n == f.v && !f.z
  else true

/-- `ConditionHolds(cond)`: the base condition, inverted by `cond[0]` except for `0b1111` (R43). -/
def conditionHolds (f : Flags) (cond : BitVec 4) : Bool :=
  if cond.getLsbD 0 && cond != 0b1111#4 then !baseCondition f (cond.extractLsb' 1 3)
  else baseCondition f (cond.extractLsb' 1 3)

end Sys2Proof.Machine
end

