-- ==== Sys2Proof/Machine/Branch.lean ====
section
/-! DEFINITION. Branches and NOP (spec/42_branches_and_system.md). `s.pc` is the address of the branch
itself (R200); every sum wraps; no branch checks its target (R201). -/

namespace Sys2Proof.Machine

/-- `if taken then pc <- pc + offset else pc <- pc + 4` (R200). -/
def branchIf (taken : Bool) (offset : Word) (s : State) : Result :=
  .next (if taken then s.setPc (s.pc + offset) else s.advance)

/-- The link of BL and BLR: `X[30] <- pc + 4` (R202). -/
def link (s : State) : State := s.writeX 30#5 (s.pc + 4#64)

/-- R203 B. -/
def execB (imm26 : BitVec 26) (s : State) : Result := .next (s.setPc (s.pc + offset26 imm26))

/-- R204 BL. -/
def execBl (imm26 : BitVec 26) (s : State) : Result := .next ((link s).setPc (s.pc + offset26 imm26))

/-- R205 B.cond. -/
def execBCond (imm19 : BitVec 19) (cond : BitVec 4) (s : State) : Result :=
  branchIf (conditionHolds s.flags cond) (offset19 imm19) s

/-- R206 CBZ. -/
def execCbz (sf : BitVec 1) (imm19 : BitVec 19) (rt : RegIdx) (s : State) : Result :=
  branchIf (s.gpr (datasize sf) rt (datasize_le_64 sf) == 0) (offset19 imm19) s

/-- R207 CBNZ. -/
def execCbnz (sf : BitVec 1) (imm19 : BitVec 19) (rt : RegIdx) (s : State) : Result :=
  branchIf (s.gpr (datasize sf) rt (datasize_le_64 sf) != 0) (offset19 imm19) s

/-- R208 BR. -/
def execBr (rn : RegIdx) (s : State) : Result := .next (s.setPc (s.readX rn))

/-- R209 BLR: the target is read before X30 is written. -/
def execBlr (rn : RegIdx) (s : State) : Result := .next ((link s).setPc (s.readX rn))

/-- R210 RET: the state change of BR. -/
def execRet (rn : RegIdx) (s : State) : Result := .next (s.setPc (s.readX rn))

/-- R211 NOP. -/
def execNop (s : State) : Result := .next s.advance

end Sys2Proof.Machine
end

