-- ==== Sys2Proof/WellFormed.lean ====
section
/-! DEFINITION. Well-formed instructions: the fields pass every check of the instruction's rule that
depends on the word alone, so that no execution of it raises `Illegal` for its encoding
(spec/30_encoding.md R134, spec/60_exceptions.md R305 causes 4, 11 and 14 to 16). Field widths need no
check: they are the fields' types. -/

namespace Sys2Proof

/-- ADD (vector) with `size = 0b11` and `Q = 0` is reserved (spec/40_simd_three_same.md R156). -/
def addVectorReserved (q : BitVec 1) (size : BitVec 2) : Bool := size == 0b11#2 && q == 0#1

/-- A post- or pre-index access of a general-purpose register with `Rn = Rt`, `Rn != 31`
(spec/43_loads_and_stores.md R233 (b)). -/
def writebackConflict (rn rt : RegIdx) : Bool := rn == rt && rn != 31#5

/-- Move wide with `sf = 0` and `hw[1] = 1` is reserved (spec/44_dp_immediate.md R267 (b)). -/
def moveWideHwReserved (sf : BitVec 1) (hw : BitVec 2) : Bool := sf == 0#1 && hw.getLsbD 1

/-- Add and subtract have no ROR: `shift = 0b11` is reserved (spec/45_dp_register.md R280 (a)). -/
def addSubShiftReserved (shift : BitVec 2) : Bool := shift == 0b11#2

/-- A shift of 32 or more on a 32-bit operand: `sf = 0` with `imm6[5] = 1` is reserved
(spec/45_dp_register.md R280 (b), R287). -/
def amountReserved (sf : BitVec 1) (imm6 : BitVec 6) : Bool := sf == 0#1 && imm6.getLsbD 5

/-- No field combination that the instruction's rule lists as reserved. -/
def Instr.wellFormed : Instr → Bool
  | .addVector q size _ _ _ => !addVectorReserved q size
  | .andVector _ _ _ _ => true
  | .bicVector _ _ _ _ => true
  | .orrVector _ _ _ _ => true
  | .ornVector _ _ _ _ => true
  | .eorVector _ _ _ _ => true
  | .bslVector _ _ _ _ => true
  | .bitVector _ _ _ _ => true
  | .bifVector _ _ _ _ => true
  | .aese _ _ => true
  | .aesd _ _ => true
  | .aesmc _ _ => true
  | .aesimc _ _ => true
  | .b _ => true
  | .bl _ => true
  | .bCond _ _ => true
  | .cbz _ _ _ => true
  | .cbnz _ _ _ => true
  | .br _ => true
  | .blr _ => true
  | .ret _ => true
  | .nop => true
  | .strbOff _ _ _ => true
  | .ldrbOff _ _ _ => true
  | .strhOff _ _ _ => true
  | .ldrhOff _ _ _ => true
  | .strWOff _ _ _ => true
  | .ldrWOff _ _ _ => true
  | .strXOff _ _ _ => true
  | .ldrXOff _ _ _ => true
  | .strSimdBOff _ _ _ => true
  | .ldrSimdBOff _ _ _ => true
  | .strSimdHOff _ _ _ => true
  | .ldrSimdHOff _ _ _ => true
  | .strSimdSOff _ _ _ => true
  | .ldrSimdSOff _ _ _ => true
  | .strSimdDOff _ _ _ => true
  | .ldrSimdDOff _ _ _ => true
  | .strSimdQOff _ _ _ => true
  | .ldrSimdQOff _ _ _ => true
  | .strbPost _ rn rt => !writebackConflict rn rt
  | .ldrbPost _ rn rt => !writebackConflict rn rt
  | .strhPost _ rn rt => !writebackConflict rn rt
  | .ldrhPost _ rn rt => !writebackConflict rn rt
  | .strWPost _ rn rt => !writebackConflict rn rt
  | .ldrWPost _ rn rt => !writebackConflict rn rt
  | .strXPost _ rn rt => !writebackConflict rn rt
  | .ldrXPost _ rn rt => !writebackConflict rn rt
  | .strSimdBPost _ _ _ => true
  | .ldrSimdBPost _ _ _ => true
  | .strSimdHPost _ _ _ => true
  | .ldrSimdHPost _ _ _ => true
  | .strSimdSPost _ _ _ => true
  | .ldrSimdSPost _ _ _ => true
  | .strSimdDPost _ _ _ => true
  | .ldrSimdDPost _ _ _ => true
  | .strSimdQPost _ _ _ => true
  | .ldrSimdQPost _ _ _ => true
  | .strbPre _ rn rt => !writebackConflict rn rt
  | .ldrbPre _ rn rt => !writebackConflict rn rt
  | .strhPre _ rn rt => !writebackConflict rn rt
  | .ldrhPre _ rn rt => !writebackConflict rn rt
  | .strWPre _ rn rt => !writebackConflict rn rt
  | .ldrWPre _ rn rt => !writebackConflict rn rt
  | .strXPre _ rn rt => !writebackConflict rn rt
  | .ldrXPre _ rn rt => !writebackConflict rn rt
  | .strSimdBPre _ _ _ => true
  | .ldrSimdBPre _ _ _ => true
  | .strSimdHPre _ _ _ => true
  | .ldrSimdHPre _ _ _ => true
  | .strSimdSPre _ _ _ => true
  | .ldrSimdSPre _ _ _ => true
  | .strSimdDPre _ _ _ => true
  | .ldrSimdDPre _ _ _ => true
  | .strSimdQPre _ _ _ => true
  | .ldrSimdQPre _ _ _ => true
  | .addImm _ _ _ _ _ => true
  | .addsImm _ _ _ _ _ => true
  | .subImm _ _ _ _ _ => true
  | .subsImm _ _ _ _ _ => true
  | .movn sf hw _ _ => !moveWideHwReserved sf hw
  | .movz sf hw _ _ => !moveWideHwReserved sf hw
  | .movk sf hw _ _ => !moveWideHwReserved sf hw
  | .adr _ _ _ => true
  | .adrp _ _ _ => true
  | .addShifted sf shift _ imm6 _ _ => !(addSubShiftReserved shift || amountReserved sf imm6)
  | .addsShifted sf shift _ imm6 _ _ => !(addSubShiftReserved shift || amountReserved sf imm6)
  | .subShifted sf shift _ imm6 _ _ => !(addSubShiftReserved shift || amountReserved sf imm6)
  | .subsShifted sf shift _ imm6 _ _ => !(addSubShiftReserved shift || amountReserved sf imm6)
  | .andShifted sf _ _ imm6 _ _ => !amountReserved sf imm6
  | .bicShifted sf _ _ imm6 _ _ => !amountReserved sf imm6
  | .orrShifted sf _ _ imm6 _ _ => !amountReserved sf imm6
  | .ornShifted sf _ _ imm6 _ _ => !amountReserved sf imm6
  | .eorShifted sf _ _ imm6 _ _ => !amountReserved sf imm6
  | .eonShifted sf _ _ imm6 _ _ => !amountReserved sf imm6
  | .andsShifted sf _ _ imm6 _ _ => !amountReserved sf imm6
  | .bicsShifted sf _ _ imm6 _ _ => !amountReserved sf imm6

end Sys2Proof
end

