-- ==== Sys2Proof/Machine/DpImmediate.lean ====
section
/-! DEFINITION. Data processing, immediate (spec/44_dp_immediate.md). -/

namespace Sys2Proof.Machine

/-- The one `AddWithCarry` call of ADD, ADDS (`sub = false`) and SUB, SUBS (`sub = true`) (immediate), at
the operand width: `a - b` is `a + NOT b + 1` (R260, R262). `Rn` is the stack-pointer view (R261). -/
def addSubImmResult (sf : BitVec 1) (sub : Bool) (sh : BitVec 1) (imm12 : BitVec 12) (rn : RegIdx) (s : State) :
    BitVec (datasize sf) × Flags :=
  if sub then addWithCarry (s.gprSp (datasize sf) rn (datasize_le_64 sf)) (~~~(addSubImmediate sf sh imm12)) true
  else addWithCarry (s.gprSp (datasize sf) rn (datasize_le_64 sf)) (addSubImmediate sf sh imm12) false

/-- ADD and SUB (immediate): `Rd` is the stack-pointer view, no flag is written (R261). -/
def addSubImm (sub : Bool) (sf sh : BitVec 1) (imm12 : BitVec 12) (rn rd : RegIdx) (s : State) : Result :=
  .next (s.setGprSp rd (addSubImmResult sf sub sh imm12 rn s).1 (datasize_le_64 sf)).advance

/-- ADDS and SUBS (immediate): `Rd` is the zero-register view, all four flags are written (R261, R262). -/
def addSubImmFlags (sub : Bool) (sf sh : BitVec 1) (imm12 : BitVec 12) (rn rd : RegIdx) (s : State) : Result :=
  .next (((s.setFlags (addSubImmResult sf sub sh imm12 rn s).2).setGpr rd
    (addSubImmResult sf sub sh imm12 rn s).1 (datasize_le_64 sf)).advance)

/-- R263 ADD (immediate). -/
def execAddImm (sf sh : BitVec 1) (imm12 : BitVec 12) (rn rd : RegIdx) (s : State) : Result :=
  addSubImm false sf sh imm12 rn rd s

/-- R264 ADDS (immediate). -/
def execAddsImm (sf sh : BitVec 1) (imm12 : BitVec 12) (rn rd : RegIdx) (s : State) : Result :=
  addSubImmFlags false sf sh imm12 rn rd s

/-- R265 SUB (immediate). -/
def execSubImm (sf sh : BitVec 1) (imm12 : BitVec 12) (rn rd : RegIdx) (s : State) : Result :=
  addSubImm true sf sh imm12 rn rd s

/-- R266 SUBS (immediate). -/
def execSubsImm (sf sh : BitVec 1) (imm12 : BitVec 12) (rn rd : RegIdx) (s : State) : Result :=
  addSubImmFlags true sf sh imm12 rn rd s

/-- The common shape of the move-wide instructions (R267): the reserved position, then `value` written to
`Rd` in the zero-register view at the operand width. -/
def moveWide (sf : BitVec 1) (value : BitVec (datasize sf)) (hw : BitVec 2) (rd : RegIdx) (s : State) : Result :=
  if moveWideHwReserved sf hw then raise .moveWideHwReserved s
  else .next (s.setGpr rd value (datasize_le_64 sf)).advance

/-- R268 MOVN. -/
def execMovn (sf : BitVec 1) (hw : BitVec 2) (imm16 : BitVec 16) (rd : RegIdx) (s : State) : Result :=
  moveWide sf (~~~(insert16 (0#(datasize sf)) (movePos hw) imm16)) hw rd s

/-- R269 MOVZ. -/
def execMovz (sf : BitVec 1) (hw : BitVec 2) (imm16 : BitVec 16) (rd : RegIdx) (s : State) : Result :=
  moveWide sf (insert16 (0#(datasize sf)) (movePos hw) imm16) hw rd s

/-- R270 MOVK: the other bits of the operand width are kept. -/
def execMovk (sf : BitVec 1) (hw : BitVec 2) (imm16 : BitVec 16) (rd : RegIdx) (s : State) : Result :=
  moveWide sf (insert16 (s.gpr (datasize sf) rd (datasize_le_64 sf)) (movePos hw) imm16) hw rd s

/-- R272 ADR. -/
def execAdr (immlo : BitVec 2) (immhi : BitVec 19) (rd : RegIdx) (s : State) : Result :=
  .next (s.writeX rd (s.pc + adrOffset immlo immhi)).advance

/-- R273 ADRP. -/
def execAdrp (immlo : BitVec 2) (immhi : BitVec 19) (rd : RegIdx) (s : State) : Result :=
  .next (s.writeX rd (adrpBase s.pc + adrpOffset immlo immhi)).advance

end Sys2Proof.Machine
end

