-- ==== Sys2Proof/Machine/DpRegister.lean ====
section
/-! DEFINITION. Data processing, shifted register (spec/45_dp_register.md). `Rd`, `Rn` and `Rm` are the
zero-register view (R282). -/

namespace Sys2Proof.Machine

/-- The reserved-value checks of the add and subtract class, in R280's order, before `body`. -/
def checkAddSub (sf : BitVec 1) (shift : BitVec 2) (imm6 : BitVec 6) (s : State) (body : Result) : Result :=
  if addSubShiftReserved shift then raise .addSubShiftReserved s
  else if amountReserved sf imm6 then raise .addSubAmountReserved s
  else body

/-- The one reserved-value check of the logical class (R287), before `body`. -/
def checkLogical (sf : BitVec 1) (imm6 : BitVec 6) (s : State) (body : Result) : Result :=
  if amountReserved sf imm6 then raise .logicalAmountReserved s else body

/-- The one `AddWithCarry` call of ADD, ADDS (`sub = false`) and SUB, SUBS (`sub = true`) (shifted
register), at the operand width (R283 to R286). -/
def addSubShiftedResult (sf : BitVec 1) (sub : Bool) (shift : BitVec 2) (rm : RegIdx) (imm6 : BitVec 6) (rn : RegIdx)
    (s : State) : BitVec (datasize sf) × Flags :=
  if sub then addWithCarry (s.gpr (datasize sf) rn (datasize_le_64 sf)) (~~~(shiftedOperand sf s shift rm imm6)) true
  else addWithCarry (s.gpr (datasize sf) rn (datasize_le_64 sf)) (shiftedOperand sf s shift rm imm6) false

/-- ADD and SUB (shifted register): no flag is written. -/
def addSubShifted (sub : Bool) (sf : BitVec 1) (shift : BitVec 2) (rm : RegIdx) (imm6 : BitVec 6) (rn rd : RegIdx)
    (s : State) : Result :=
  checkAddSub sf shift imm6 s
    (.next (s.setGpr rd (addSubShiftedResult sf sub shift rm imm6 rn s).1 (datasize_le_64 sf)).advance)

/-- ADDS and SUBS (shifted register): all four flags are written. -/
def addSubShiftedFlags (sub : Bool) (sf : BitVec 1) (shift : BitVec 2) (rm : RegIdx) (imm6 : BitVec 6)
    (rn rd : RegIdx) (s : State) : Result :=
  checkAddSub sf shift imm6 s
    (.next ((s.setFlags (addSubShiftedResult sf sub shift rm imm6 rn s).2).setGpr rd
      (addSubShiftedResult sf sub shift rm imm6 rn s).1 (datasize_le_64 sf)).advance)

/-- The second operand of a logical instruction: the shift first, then the complement when `N = 1`
(R288). -/
def logicalOperand (sf : BitVec 1) (invert : Bool) (s : State) (shift : BitVec 2) (rm : RegIdx) (imm6 : BitVec 6) :
    BitVec (datasize sf) :=
  if invert then ~~~(shiftedOperand sf s shift rm imm6) else shiftedOperand sf s shift rm imm6

/-- The logical instructions that write no flag (R288). -/
def logicalShifted (f : {w : Nat} → BitVec w → BitVec w → BitVec w) (invert : Bool)
    (sf : BitVec 1) (shift : BitVec 2) (rm : RegIdx) (imm6 : BitVec 6) (rn rd : RegIdx) (s : State) : Result :=
  checkLogical sf imm6 s
    (.next (s.setGpr rd (f (s.gpr (datasize sf) rn (datasize_le_64 sf)) (logicalOperand sf invert s shift rm imm6))
      (datasize_le_64 sf)).advance)

/-- The conjunction ANDS and BICS compute (R288). -/
def andShiftedResult (sf : BitVec 1) (invert : Bool) (shift : BitVec 2) (rm : RegIdx) (imm6 : BitVec 6) (rn : RegIdx)
    (s : State) : BitVec (datasize sf) :=
  s.gpr (datasize sf) rn (datasize_le_64 sf) &&& logicalOperand sf invert s shift rm imm6

/-- ANDS and BICS: the conjunction, with its flags (R288). -/
def andShiftedFlags (invert : Bool) (sf : BitVec 1) (shift : BitVec 2) (rm : RegIdx) (imm6 : BitVec 6)
    (rn rd : RegIdx) (s : State) : Result :=
  checkLogical sf imm6 s
    (.next ((s.setFlags (logicalFlags (andShiftedResult sf invert shift rm imm6 rn s))).setGpr rd
      (andShiftedResult sf invert shift rm imm6 rn s) (datasize_le_64 sf)).advance)

/-- R283 ADD (shifted register). -/
def execAddShifted (sf : BitVec 1) (shift : BitVec 2) (rm : RegIdx) (imm6 : BitVec 6) (rn rd : RegIdx) (s : State) : Result :=
  addSubShifted false sf shift rm imm6 rn rd s

/-- R284 ADDS (shifted register). -/
def execAddsShifted (sf : BitVec 1) (shift : BitVec 2) (rm : RegIdx) (imm6 : BitVec 6) (rn rd : RegIdx) (s : State) : Result :=
  addSubShiftedFlags false sf shift rm imm6 rn rd s

/-- R285 SUB (shifted register). -/
def execSubShifted (sf : BitVec 1) (shift : BitVec 2) (rm : RegIdx) (imm6 : BitVec 6) (rn rd : RegIdx) (s : State) : Result :=
  addSubShifted true sf shift rm imm6 rn rd s

/-- R286 SUBS (shifted register). -/
def execSubsShifted (sf : BitVec 1) (shift : BitVec 2) (rm : RegIdx) (imm6 : BitVec 6) (rn rd : RegIdx) (s : State) : Result :=
  addSubShiftedFlags true sf shift rm imm6 rn rd s

/-- R289 AND (shifted register). -/
def execAndShifted (sf : BitVec 1) (shift : BitVec 2) (rm : RegIdx) (imm6 : BitVec 6) (rn rd : RegIdx) (s : State) : Result :=
  logicalShifted (fun a b => a &&& b) false sf shift rm imm6 rn rd s

/-- R290 BIC (shifted register). -/
def execBicShifted (sf : BitVec 1) (shift : BitVec 2) (rm : RegIdx) (imm6 : BitVec 6) (rn rd : RegIdx) (s : State) : Result :=
  logicalShifted (fun a b => a &&& b) true sf shift rm imm6 rn rd s

/-- R291 ORR (shifted register). -/
def execOrrShifted (sf : BitVec 1) (shift : BitVec 2) (rm : RegIdx) (imm6 : BitVec 6) (rn rd : RegIdx) (s : State) : Result :=
  logicalShifted (fun a b => a ||| b) false sf shift rm imm6 rn rd s

/-- R292 ORN (shifted register). -/
def execOrnShifted (sf : BitVec 1) (shift : BitVec 2) (rm : RegIdx) (imm6 : BitVec 6) (rn rd : RegIdx) (s : State) : Result :=
  logicalShifted (fun a b => a ||| b) true sf shift rm imm6 rn rd s

/-- R293 EOR (shifted register). -/
def execEorShifted (sf : BitVec 1) (shift : BitVec 2) (rm : RegIdx) (imm6 : BitVec 6) (rn rd : RegIdx) (s : State) : Result :=
  logicalShifted (fun a b => a ^^^ b) false sf shift rm imm6 rn rd s

/-- R294 EON (shifted register). -/
def execEonShifted (sf : BitVec 1) (shift : BitVec 2) (rm : RegIdx) (imm6 : BitVec 6) (rn rd : RegIdx) (s : State) : Result :=
  logicalShifted (fun a b => a ^^^ b) true sf shift rm imm6 rn rd s

/-- R295 ANDS (shifted register). -/
def execAndsShifted (sf : BitVec 1) (shift : BitVec 2) (rm : RegIdx) (imm6 : BitVec 6) (rn rd : RegIdx) (s : State) : Result :=
  andShiftedFlags false sf shift rm imm6 rn rd s

/-- R296 BICS (shifted register). -/
def execBicsShifted (sf : BitVec 1) (shift : BitVec 2) (rm : RegIdx) (imm6 : BitVec 6) (rn rd : RegIdx) (s : State) : Result :=
  andShiftedFlags true sf shift rm imm6 rn rd s

end Sys2Proof.Machine
end

