-- ==== Sys2Proof/Machine/LoadStore.lean ====
section
/-! DEFINITION. Loads and stores (spec/43_loads_and_stores.md): four shared operations, one for each
direction and register bank, and the eighteen operations in their three addressing forms. -/

namespace Sys2Proof.Machine

/-- The tail of a load or store, R232 steps 3 to 8: the SP alignment check, the address, the one access
(with the write of `Rt` for a load), the write-back of the base, `pc <- pc + 4`. -/
def ldstStep (scale : Nat) (form : AddrForm) (rn : RegIdx) (access : Word → State → State) (s : State) : Result :=
  if spMisaligned rn s then raise .spAlign s
  else .next (writeBack rn (ldstAddress scale form rn s).2 (access (ldstAddress scale form rn s).1 s)).advance

/-- The write-back register check of R233 (b), before the rest (R232 step 2). -/
def checkWriteback (form : AddrForm) (rn rt : RegIdx) (s : State) (body : Result) : Result :=
  if isWriteback form && writebackConflict rn rt then raise .ldstWritebackConflict s else body

/-- A store of `2^scale` bytes from a general-purpose register: the low bits of `X[t]` (R234, R235). -/
def storeGpr (scale : Nat) (form : AddrForm) (rn rt : RegIdx) (s : State) (h : scale ≤ 3 := by decide) : Result :=
  checkWriteback form rn rt s
    (ldstStep scale form rn (fun a t => t.memWrite a (2 ^ scale) (s.gpr (8 * 2 ^ scale) rt (gprAccess_le_64 h))) s)

/-- A load of `2^scale` bytes into a general-purpose register, zero-extended to 64 bits (R234, R235). -/
def loadGpr (scale : Nat) (form : AddrForm) (rn rt : RegIdx) (s : State) (h : scale ≤ 3 := by decide) : Result :=
  checkWriteback form rn rt s
    (ldstStep scale form rn (fun a t => t.setGpr rt (s.memRead a (2 ^ scale)) (gprAccess_le_64 h)) s)

/-- A store of `2^scale` bytes from a SIMD register: `Vpart(t, 8 * 2^scale)` (R235). -/
def storeSimd (scale : Nat) (form : AddrForm) (rn rt : RegIdx) (s : State) (h : scale ≤ 4 := by decide) : Result :=
  ldstStep scale form rn (fun a t => t.memWrite a (2 ^ scale) (s.vpart (8 * 2 ^ scale) rt (simdAccess_le_128 h))) s

/-- A load of `2^scale` bytes into a SIMD register, zero-extended to 128 bits (R235). -/
def loadSimd (scale : Nat) (form : AddrForm) (rn rt : RegIdx) (s : State) (h : scale ≤ 4 := by decide) : Result :=
  ldstStep scale form rn (fun a t => t.setVpart rt (s.memRead a (2 ^ scale)) (simdAccess_le_128 h)) s

/-- R236 STRB, unsigned offset. -/
def execStrbOff (imm12 : BitVec 12) (rn rt : RegIdx) (s : State) : Result :=
  storeGpr 0 (.unsignedOffset imm12) rn rt s

/-- R237 LDRB, unsigned offset. -/
def execLdrbOff (imm12 : BitVec 12) (rn rt : RegIdx) (s : State) : Result :=
  loadGpr 0 (.unsignedOffset imm12) rn rt s

/-- R238 STRH, unsigned offset. -/
def execStrhOff (imm12 : BitVec 12) (rn rt : RegIdx) (s : State) : Result :=
  storeGpr 1 (.unsignedOffset imm12) rn rt s

/-- R239 LDRH, unsigned offset. -/
def execLdrhOff (imm12 : BitVec 12) (rn rt : RegIdx) (s : State) : Result :=
  loadGpr 1 (.unsignedOffset imm12) rn rt s

/-- R240 STR (32-bit), unsigned offset. -/
def execStrWOff (imm12 : BitVec 12) (rn rt : RegIdx) (s : State) : Result :=
  storeGpr 2 (.unsignedOffset imm12) rn rt s

/-- R241 LDR (32-bit), unsigned offset. -/
def execLdrWOff (imm12 : BitVec 12) (rn rt : RegIdx) (s : State) : Result :=
  loadGpr 2 (.unsignedOffset imm12) rn rt s

/-- R242 STR (64-bit), unsigned offset. -/
def execStrXOff (imm12 : BitVec 12) (rn rt : RegIdx) (s : State) : Result :=
  storeGpr 3 (.unsignedOffset imm12) rn rt s

/-- R243 LDR (64-bit), unsigned offset. -/
def execLdrXOff (imm12 : BitVec 12) (rn rt : RegIdx) (s : State) : Result :=
  loadGpr 3 (.unsignedOffset imm12) rn rt s

/-- R244 STR (B), SIMD&FP, unsigned offset. -/
def execStrSimdBOff (imm12 : BitVec 12) (rn rt : RegIdx) (s : State) : Result :=
  storeSimd 0 (.unsignedOffset imm12) rn rt s

/-- R245 LDR (B), SIMD&FP, unsigned offset. -/
def execLdrSimdBOff (imm12 : BitVec 12) (rn rt : RegIdx) (s : State) : Result :=
  loadSimd 0 (.unsignedOffset imm12) rn rt s

/-- R246 STR (H), SIMD&FP, unsigned offset. -/
def execStrSimdHOff (imm12 : BitVec 12) (rn rt : RegIdx) (s : State) : Result :=
  storeSimd 1 (.unsignedOffset imm12) rn rt s

/-- R247 LDR (H), SIMD&FP, unsigned offset. -/
def execLdrSimdHOff (imm12 : BitVec 12) (rn rt : RegIdx) (s : State) : Result :=
  loadSimd 1 (.unsignedOffset imm12) rn rt s

/-- R248 STR (S), SIMD&FP, unsigned offset. -/
def execStrSimdSOff (imm12 : BitVec 12) (rn rt : RegIdx) (s : State) : Result :=
  storeSimd 2 (.unsignedOffset imm12) rn rt s

/-- R249 LDR (S), SIMD&FP, unsigned offset. -/
def execLdrSimdSOff (imm12 : BitVec 12) (rn rt : RegIdx) (s : State) : Result :=
  loadSimd 2 (.unsignedOffset imm12) rn rt s

/-- R250 STR (D), SIMD&FP, unsigned offset. -/
def execStrSimdDOff (imm12 : BitVec 12) (rn rt : RegIdx) (s : State) : Result :=
  storeSimd 3 (.unsignedOffset imm12) rn rt s

/-- R251 LDR (D), SIMD&FP, unsigned offset. -/
def execLdrSimdDOff (imm12 : BitVec 12) (rn rt : RegIdx) (s : State) : Result :=
  loadSimd 3 (.unsignedOffset imm12) rn rt s

/-- R252 STR (Q), SIMD&FP, unsigned offset. -/
def execStrSimdQOff (imm12 : BitVec 12) (rn rt : RegIdx) (s : State) : Result :=
  storeSimd 4 (.unsignedOffset imm12) rn rt s

/-- R253 LDR (Q), SIMD&FP, unsigned offset. -/
def execLdrSimdQOff (imm12 : BitVec 12) (rn rt : RegIdx) (s : State) : Result :=
  loadSimd 4 (.unsignedOffset imm12) rn rt s

/-- R236 STRB, post-index. -/
def execStrbPost (imm9 : BitVec 9) (rn rt : RegIdx) (s : State) : Result :=
  storeGpr 0 (.postIndex imm9) rn rt s

/-- R237 LDRB, post-index. -/
def execLdrbPost (imm9 : BitVec 9) (rn rt : RegIdx) (s : State) : Result :=
  loadGpr 0 (.postIndex imm9) rn rt s

/-- R238 STRH, post-index. -/
def execStrhPost (imm9 : BitVec 9) (rn rt : RegIdx) (s : State) : Result :=
  storeGpr 1 (.postIndex imm9) rn rt s

/-- R239 LDRH, post-index. -/
def execLdrhPost (imm9 : BitVec 9) (rn rt : RegIdx) (s : State) : Result :=
  loadGpr 1 (.postIndex imm9) rn rt s

/-- R240 STR (32-bit), post-index. -/
def execStrWPost (imm9 : BitVec 9) (rn rt : RegIdx) (s : State) : Result :=
  storeGpr 2 (.postIndex imm9) rn rt s

/-- R241 LDR (32-bit), post-index. -/
def execLdrWPost (imm9 : BitVec 9) (rn rt : RegIdx) (s : State) : Result :=
  loadGpr 2 (.postIndex imm9) rn rt s

/-- R242 STR (64-bit), post-index. -/
def execStrXPost (imm9 : BitVec 9) (rn rt : RegIdx) (s : State) : Result :=
  storeGpr 3 (.postIndex imm9) rn rt s

/-- R243 LDR (64-bit), post-index. -/
def execLdrXPost (imm9 : BitVec 9) (rn rt : RegIdx) (s : State) : Result :=
  loadGpr 3 (.postIndex imm9) rn rt s

/-- R244 STR (B), SIMD&FP, post-index. -/
def execStrSimdBPost (imm9 : BitVec 9) (rn rt : RegIdx) (s : State) : Result :=
  storeSimd 0 (.postIndex imm9) rn rt s

/-- R245 LDR (B), SIMD&FP, post-index. -/
def execLdrSimdBPost (imm9 : BitVec 9) (rn rt : RegIdx) (s : State) : Result :=
  loadSimd 0 (.postIndex imm9) rn rt s

/-- R246 STR (H), SIMD&FP, post-index. -/
def execStrSimdHPost (imm9 : BitVec 9) (rn rt : RegIdx) (s : State) : Result :=
  storeSimd 1 (.postIndex imm9) rn rt s

/-- R247 LDR (H), SIMD&FP, post-index. -/
def execLdrSimdHPost (imm9 : BitVec 9) (rn rt : RegIdx) (s : State) : Result :=
  loadSimd 1 (.postIndex imm9) rn rt s

/-- R248 STR (S), SIMD&FP, post-index. -/
def execStrSimdSPost (imm9 : BitVec 9) (rn rt : RegIdx) (s : State) : Result :=
  storeSimd 2 (.postIndex imm9) rn rt s

/-- R249 LDR (S), SIMD&FP, post-index. -/
def execLdrSimdSPost (imm9 : BitVec 9) (rn rt : RegIdx) (s : State) : Result :=
  loadSimd 2 (.postIndex imm9) rn rt s

/-- R250 STR (D), SIMD&FP, post-index. -/
def execStrSimdDPost (imm9 : BitVec 9) (rn rt : RegIdx) (s : State) : Result :=
  storeSimd 3 (.postIndex imm9) rn rt s

/-- R251 LDR (D), SIMD&FP, post-index. -/
def execLdrSimdDPost (imm9 : BitVec 9) (rn rt : RegIdx) (s : State) : Result :=
  loadSimd 3 (.postIndex imm9) rn rt s

/-- R252 STR (Q), SIMD&FP, post-index. -/
def execStrSimdQPost (imm9 : BitVec 9) (rn rt : RegIdx) (s : State) : Result :=
  storeSimd 4 (.postIndex imm9) rn rt s

/-- R253 LDR (Q), SIMD&FP, post-index. -/
def execLdrSimdQPost (imm9 : BitVec 9) (rn rt : RegIdx) (s : State) : Result :=
  loadSimd 4 (.postIndex imm9) rn rt s

/-- R236 STRB, pre-index. -/
def execStrbPre (imm9 : BitVec 9) (rn rt : RegIdx) (s : State) : Result :=
  storeGpr 0 (.preIndex imm9) rn rt s

/-- R237 LDRB, pre-index. -/
def execLdrbPre (imm9 : BitVec 9) (rn rt : RegIdx) (s : State) : Result :=
  loadGpr 0 (.preIndex imm9) rn rt s

/-- R238 STRH, pre-index. -/
def execStrhPre (imm9 : BitVec 9) (rn rt : RegIdx) (s : State) : Result :=
  storeGpr 1 (.preIndex imm9) rn rt s

/-- R239 LDRH, pre-index. -/
def execLdrhPre (imm9 : BitVec 9) (rn rt : RegIdx) (s : State) : Result :=
  loadGpr 1 (.preIndex imm9) rn rt s

/-- R240 STR (32-bit), pre-index. -/
def execStrWPre (imm9 : BitVec 9) (rn rt : RegIdx) (s : State) : Result :=
  storeGpr 2 (.preIndex imm9) rn rt s

/-- R241 LDR (32-bit), pre-index. -/
def execLdrWPre (imm9 : BitVec 9) (rn rt : RegIdx) (s : State) : Result :=
  loadGpr 2 (.preIndex imm9) rn rt s

/-- R242 STR (64-bit), pre-index. -/
def execStrXPre (imm9 : BitVec 9) (rn rt : RegIdx) (s : State) : Result :=
  storeGpr 3 (.preIndex imm9) rn rt s

/-- R243 LDR (64-bit), pre-index. -/
def execLdrXPre (imm9 : BitVec 9) (rn rt : RegIdx) (s : State) : Result :=
  loadGpr 3 (.preIndex imm9) rn rt s

/-- R244 STR (B), SIMD&FP, pre-index. -/
def execStrSimdBPre (imm9 : BitVec 9) (rn rt : RegIdx) (s : State) : Result :=
  storeSimd 0 (.preIndex imm9) rn rt s

/-- R245 LDR (B), SIMD&FP, pre-index. -/
def execLdrSimdBPre (imm9 : BitVec 9) (rn rt : RegIdx) (s : State) : Result :=
  loadSimd 0 (.preIndex imm9) rn rt s

/-- R246 STR (H), SIMD&FP, pre-index. -/
def execStrSimdHPre (imm9 : BitVec 9) (rn rt : RegIdx) (s : State) : Result :=
  storeSimd 1 (.preIndex imm9) rn rt s

/-- R247 LDR (H), SIMD&FP, pre-index. -/
def execLdrSimdHPre (imm9 : BitVec 9) (rn rt : RegIdx) (s : State) : Result :=
  loadSimd 1 (.preIndex imm9) rn rt s

/-- R248 STR (S), SIMD&FP, pre-index. -/
def execStrSimdSPre (imm9 : BitVec 9) (rn rt : RegIdx) (s : State) : Result :=
  storeSimd 2 (.preIndex imm9) rn rt s

/-- R249 LDR (S), SIMD&FP, pre-index. -/
def execLdrSimdSPre (imm9 : BitVec 9) (rn rt : RegIdx) (s : State) : Result :=
  loadSimd 2 (.preIndex imm9) rn rt s

/-- R250 STR (D), SIMD&FP, pre-index. -/
def execStrSimdDPre (imm9 : BitVec 9) (rn rt : RegIdx) (s : State) : Result :=
  storeSimd 3 (.preIndex imm9) rn rt s

/-- R251 LDR (D), SIMD&FP, pre-index. -/
def execLdrSimdDPre (imm9 : BitVec 9) (rn rt : RegIdx) (s : State) : Result :=
  loadSimd 3 (.preIndex imm9) rn rt s

/-- R252 STR (Q), SIMD&FP, pre-index. -/
def execStrSimdQPre (imm9 : BitVec 9) (rn rt : RegIdx) (s : State) : Result :=
  storeSimd 4 (.preIndex imm9) rn rt s

/-- R253 LDR (Q), SIMD&FP, pre-index. -/
def execLdrSimdQPre (imm9 : BitVec 9) (rn rt : RegIdx) (s : State) : Result :=
  loadSimd 4 (.preIndex imm9) rn rt s

end Sys2Proof.Machine
end

