-- ==== Sys2Proof/Machine/ThreeSame.lean ====
section
/-! DEFINITION. The Advanced SIMD three-same instructions (spec/40_simd_three_same.md). -/

namespace Sys2Proof.Machine

/-- The lane-wise addition of R156 on 128-bit registers: `datasize / esize` lanes of `esize` bits, each
sum wrapping on its own (R151), the bits above `datasize` zero (R152). -/
def vectorAdd (q : BitVec 1) (size : BitVec 2) (a b : VWord) : VWord :=
  zext 128 (fromLanes (esizeOf size) (vdatasize q / esizeOf size)
    (fun e => elem (esizeOf size) a e + elem (esizeOf size) b e)) (lanes_le_128 q size)

/-- The common shape of the eight logical instructions (R155, R152): `f n_v m_v d_v` on the `datasize`-bit
parts, written to `Vd` with the bits above cleared. -/
def vectorLogical (f : {w : Nat} → BitVec w → BitVec w → BitVec w → BitVec w)
    (q : BitVec 1) (rm rn rd : RegIdx) (s : State) : Result :=
  .next (s.setVpart rd
    (f (s.vpart (vdatasize q) rn (vdatasize_le_128 q)) (s.vpart (vdatasize q) rm (vdatasize_le_128 q))
      (s.vpart (vdatasize q) rd (vdatasize_le_128 q))) (vdatasize_le_128 q)).advance

/-- R156 ADD (vector). -/
def execAddVector (q : BitVec 1) (size : BitVec 2) (rm rn rd : RegIdx) (s : State) : Result :=
  if addVectorReserved q size then raise .addVectorReserved s
  else .next (s.writeV rd (vectorAdd q size (s.readV rn) (s.readV rm))).advance

/-- R157 AND (vector). -/
def execAndVector (q : BitVec 1) (rm rn rd : RegIdx) (s : State) : Result :=
  vectorLogical (fun n m _ => n &&& m) q rm rn rd s

/-- R158 BIC (vector, register). -/
def execBicVector (q : BitVec 1) (rm rn rd : RegIdx) (s : State) : Result :=
  vectorLogical (fun n m _ => n &&& ~~~m) q rm rn rd s

/-- R159 ORR (vector, register). -/
def execOrrVector (q : BitVec 1) (rm rn rd : RegIdx) (s : State) : Result :=
  vectorLogical (fun n m _ => n ||| m) q rm rn rd s

/-- R160 ORN (vector). -/
def execOrnVector (q : BitVec 1) (rm rn rd : RegIdx) (s : State) : Result :=
  vectorLogical (fun n m _ => n ||| ~~~m) q rm rn rd s

/-- R161 EOR (vector). -/
def execEorVector (q : BitVec 1) (rm rn rd : RegIdx) (s : State) : Result :=
  vectorLogical (fun n m _ => n ^^^ m) q rm rn rd s

/-- R162 BSL: `Vn` where the old `Vd` is 1, `Vm` where it is 0. -/
def execBsl (q : BitVec 1) (rm rn rd : RegIdx) (s : State) : Result :=
  vectorLogical (fun n m d => m ^^^ ((m ^^^ n) &&& d)) q rm rn rd s

/-- R163 BIT: `Vn` where `Vm` is 1, the old `Vd` where it is 0. -/
def execBit (q : BitVec 1) (rm rn rd : RegIdx) (s : State) : Result :=
  vectorLogical (fun n m d => d ^^^ ((d ^^^ n) &&& m)) q rm rn rd s

/-- R164 BIF: `Vn` where `Vm` is 0, the old `Vd` where it is 1. -/
def execBif (q : BitVec 1) (rm rn rd : RegIdx) (s : State) : Result :=
  vectorLogical (fun n m d => d ^^^ ((d ^^^ n) &&& ~~~m)) q rm rn rd s

end Sys2Proof.Machine
end

