-- ==== Sys2Proof/Machine/Dispatch.lean ====
section
/-! DEFINITION. `exec`: one arm for each constructor of `Instr`, each one direct call of its meaning. -/

namespace Sys2Proof.Machine

def exec (i : Instr) (s : State) : Host.Outcome State Fault Refusal :=
  match i with
  | .addVector q size rm rn rd => Sys2Proof.Machine.execAddVector q size rm rn rd s
  | .andVector q rm rn rd => Sys2Proof.Machine.execAndVector q rm rn rd s
  | .bicVector q rm rn rd => Sys2Proof.Machine.execBicVector q rm rn rd s
  | .orrVector q rm rn rd => Sys2Proof.Machine.execOrrVector q rm rn rd s
  | .ornVector q rm rn rd => Sys2Proof.Machine.execOrnVector q rm rn rd s
  | .eorVector q rm rn rd => Sys2Proof.Machine.execEorVector q rm rn rd s
  | .bslVector q rm rn rd => Sys2Proof.Machine.execBsl q rm rn rd s
  | .bitVector q rm rn rd => Sys2Proof.Machine.execBit q rm rn rd s
  | .bifVector q rm rn rd => Sys2Proof.Machine.execBif q rm rn rd s
  | .aese rn rd => Sys2Proof.Machine.execAese rn rd s
  | .aesd rn rd => Sys2Proof.Machine.execAesd rn rd s
  | .aesmc rn rd => Sys2Proof.Machine.execAesmc rn rd s
  | .aesimc rn rd => Sys2Proof.Machine.execAesimc rn rd s
  | .b imm26 => Sys2Proof.Machine.execB imm26 s
  | .bl imm26 => Sys2Proof.Machine.execBl imm26 s
  | .bCond imm19 cond => Sys2Proof.Machine.execBCond imm19 cond s
  | .cbz sf imm19 rt => Sys2Proof.Machine.execCbz sf imm19 rt s
  | .cbnz sf imm19 rt => Sys2Proof.Machine.execCbnz sf imm19 rt s
  | .br rn => Sys2Proof.Machine.execBr rn s
  | .blr rn => Sys2Proof.Machine.execBlr rn s
  | .ret rn => Sys2Proof.Machine.execRet rn s
  | .nop => Sys2Proof.Machine.execNop s
  | .strbOff imm12 rn rt => Sys2Proof.Machine.execStrbOff imm12 rn rt s
  | .ldrbOff imm12 rn rt => Sys2Proof.Machine.execLdrbOff imm12 rn rt s
  | .strhOff imm12 rn rt => Sys2Proof.Machine.execStrhOff imm12 rn rt s
  | .ldrhOff imm12 rn rt => Sys2Proof.Machine.execLdrhOff imm12 rn rt s
  | .strWOff imm12 rn rt => Sys2Proof.Machine.execStrWOff imm12 rn rt s
  | .ldrWOff imm12 rn rt => Sys2Proof.Machine.execLdrWOff imm12 rn rt s
  | .strXOff imm12 rn rt => Sys2Proof.Machine.execStrXOff imm12 rn rt s
  | .ldrXOff imm12 rn rt => Sys2Proof.Machine.execLdrXOff imm12 rn rt s
  | .strSimdBOff imm12 rn rt => Sys2Proof.Machine.execStrSimdBOff imm12 rn rt s
  | .ldrSimdBOff imm12 rn rt => Sys2Proof.Machine.execLdrSimdBOff imm12 rn rt s
  | .strSimdHOff imm12 rn rt => Sys2Proof.Machine.execStrSimdHOff imm12 rn rt s
  | .ldrSimdHOff imm12 rn rt => Sys2Proof.Machine.execLdrSimdHOff imm12 rn rt s
  | .strSimdSOff imm12 rn rt => Sys2Proof.Machine.execStrSimdSOff imm12 rn rt s
  | .ldrSimdSOff imm12 rn rt => Sys2Proof.Machine.execLdrSimdSOff imm12 rn rt s
  | .strSimdDOff imm12 rn rt => Sys2Proof.Machine.execStrSimdDOff imm12 rn rt s
  | .ldrSimdDOff imm12 rn rt => Sys2Proof.Machine.execLdrSimdDOff imm12 rn rt s
  | .strSimdQOff imm12 rn rt => Sys2Proof.Machine.execStrSimdQOff imm12 rn rt s
  | .ldrSimdQOff imm12 rn rt => Sys2Proof.Machine.execLdrSimdQOff imm12 rn rt s
  | .strbPost imm9 rn rt => Sys2Proof.Machine.execStrbPost imm9 rn rt s
  | .ldrbPost imm9 rn rt => Sys2Proof.Machine.execLdrbPost imm9 rn rt s
  | .strhPost imm9 rn rt => Sys2Proof.Machine.execStrhPost imm9 rn rt s
  | .ldrhPost imm9 rn rt => Sys2Proof.Machine.execLdrhPost imm9 rn rt s
  | .strWPost imm9 rn rt => Sys2Proof.Machine.execStrWPost imm9 rn rt s
  | .ldrWPost imm9 rn rt => Sys2Proof.Machine.execLdrWPost imm9 rn rt s
  | .strXPost imm9 rn rt => Sys2Proof.Machine.execStrXPost imm9 rn rt s
  | .ldrXPost imm9 rn rt => Sys2Proof.Machine.execLdrXPost imm9 rn rt s
  | .strSimdBPost imm9 rn rt => Sys2Proof.Machine.execStrSimdBPost imm9 rn rt s
  | .ldrSimdBPost imm9 rn rt => Sys2Proof.Machine.execLdrSimdBPost imm9 rn rt s
  | .strSimdHPost imm9 rn rt => Sys2Proof.Machine.execStrSimdHPost imm9 rn rt s
  | .ldrSimdHPost imm9 rn rt => Sys2Proof.Machine.execLdrSimdHPost imm9 rn rt s
  | .strSimdSPost imm9 rn rt => Sys2Proof.Machine.execStrSimdSPost imm9 rn rt s
  | .ldrSimdSPost imm9 rn rt => Sys2Proof.Machine.execLdrSimdSPost imm9 rn rt s
  | .strSimdDPost imm9 rn rt => Sys2Proof.Machine.execStrSimdDPost imm9 rn rt s
  | .ldrSimdDPost imm9 rn rt => Sys2Proof.Machine.execLdrSimdDPost imm9 rn rt s
  | .strSimdQPost imm9 rn rt => Sys2Proof.Machine.execStrSimdQPost imm9 rn rt s
  | .ldrSimdQPost imm9 rn rt => Sys2Proof.Machine.execLdrSimdQPost imm9 rn rt s
  | .strbPre imm9 rn rt => Sys2Proof.Machine.execStrbPre imm9 rn rt s
  | .ldrbPre imm9 rn rt => Sys2Proof.Machine.execLdrbPre imm9 rn rt s
  | .strhPre imm9 rn rt => Sys2Proof.Machine.execStrhPre imm9 rn rt s
  | .ldrhPre imm9 rn rt => Sys2Proof.Machine.execLdrhPre imm9 rn rt s
  | .strWPre imm9 rn rt => Sys2Proof.Machine.execStrWPre imm9 rn rt s
  | .ldrWPre imm9 rn rt => Sys2Proof.Machine.execLdrWPre imm9 rn rt s
  | .strXPre imm9 rn rt => Sys2Proof.Machine.execStrXPre imm9 rn rt s
  | .ldrXPre imm9 rn rt => Sys2Proof.Machine.execLdrXPre imm9 rn rt s
  | .strSimdBPre imm9 rn rt => Sys2Proof.Machine.execStrSimdBPre imm9 rn rt s
  | .ldrSimdBPre imm9 rn rt => Sys2Proof.Machine.execLdrSimdBPre imm9 rn rt s
  | .strSimdHPre imm9 rn rt => Sys2Proof.Machine.execStrSimdHPre imm9 rn rt s
  | .ldrSimdHPre imm9 rn rt => Sys2Proof.Machine.execLdrSimdHPre imm9 rn rt s
  | .strSimdSPre imm9 rn rt => Sys2Proof.Machine.execStrSimdSPre imm9 rn rt s
  | .ldrSimdSPre imm9 rn rt => Sys2Proof.Machine.execLdrSimdSPre imm9 rn rt s
  | .strSimdDPre imm9 rn rt => Sys2Proof.Machine.execStrSimdDPre imm9 rn rt s
  | .ldrSimdDPre imm9 rn rt => Sys2Proof.Machine.execLdrSimdDPre imm9 rn rt s
  | .strSimdQPre imm9 rn rt => Sys2Proof.Machine.execStrSimdQPre imm9 rn rt s
  | .ldrSimdQPre imm9 rn rt => Sys2Proof.Machine.execLdrSimdQPre imm9 rn rt s
  | .addImm sf sh imm12 rn rd => Sys2Proof.Machine.execAddImm sf sh imm12 rn rd s
  | .addsImm sf sh imm12 rn rd => Sys2Proof.Machine.execAddsImm sf sh imm12 rn rd s
  | .subImm sf sh imm12 rn rd => Sys2Proof.Machine.execSubImm sf sh imm12 rn rd s
  | .subsImm sf sh imm12 rn rd => Sys2Proof.Machine.execSubsImm sf sh imm12 rn rd s
  | .movn sf hw imm16 rd => Sys2Proof.Machine.execMovn sf hw imm16 rd s
  | .movz sf hw imm16 rd => Sys2Proof.Machine.execMovz sf hw imm16 rd s
  | .movk sf hw imm16 rd => Sys2Proof.Machine.execMovk sf hw imm16 rd s
  | .adr immlo immhi rd => Sys2Proof.Machine.execAdr immlo immhi rd s
  | .adrp immlo immhi rd => Sys2Proof.Machine.execAdrp immlo immhi rd s
  | .addShifted sf shift rm imm6 rn rd => Sys2Proof.Machine.execAddShifted sf shift rm imm6 rn rd s
  | .addsShifted sf shift rm imm6 rn rd => Sys2Proof.Machine.execAddsShifted sf shift rm imm6 rn rd s
  | .subShifted sf shift rm imm6 rn rd => Sys2Proof.Machine.execSubShifted sf shift rm imm6 rn rd s
  | .subsShifted sf shift rm imm6 rn rd => Sys2Proof.Machine.execSubsShifted sf shift rm imm6 rn rd s
  | .andShifted sf shift rm imm6 rn rd => Sys2Proof.Machine.execAndShifted sf shift rm imm6 rn rd s
  | .bicShifted sf shift rm imm6 rn rd => Sys2Proof.Machine.execBicShifted sf shift rm imm6 rn rd s
  | .orrShifted sf shift rm imm6 rn rd => Sys2Proof.Machine.execOrrShifted sf shift rm imm6 rn rd s
  | .ornShifted sf shift rm imm6 rn rd => Sys2Proof.Machine.execOrnShifted sf shift rm imm6 rn rd s
  | .eorShifted sf shift rm imm6 rn rd => Sys2Proof.Machine.execEorShifted sf shift rm imm6 rn rd s
  | .eonShifted sf shift rm imm6 rn rd => Sys2Proof.Machine.execEonShifted sf shift rm imm6 rn rd s
  | .andsShifted sf shift rm imm6 rn rd => Sys2Proof.Machine.execAndsShifted sf shift rm imm6 rn rd s
  | .bicsShifted sf shift rm imm6 rn rd => Sys2Proof.Machine.execBicsShifted sf shift rm imm6 rn rd s

end Sys2Proof.Machine
end

