-- ==== Sys2Proof/Decode.lean ====
section
/-! DEFINITION. The decoder and the encoder (spec/30_encoding.md). `decode` reads the word alone (R111):
the class by mask and match in the decoder's order (R113, R114), the raw fields by the class's format
(R116 to R130), then the selection inside the class (R133, R135), which rejects by the name of a fault
site. The encoder stands after it, written from the same formats. -/

namespace Sys2Proof

/-- The class table of R113, in the decoder's order, without the catch-all row 16. -/
def classTable : List ClassRow :=
  [ ⟨.advSimdThreeSame, 0x9F200400#32, 0x0E200400#32⟩,
    ⟨.cryptoAes, 0xFF3E0C00#32, 0x4E280800#32⟩,
    ⟨.uncondBranchImm, 0x7C000000#32, 0x14000000#32⟩,
    ⟨.condBranchImm, 0xFE000000#32, 0x54000000#32⟩,
    ⟨.compareBranch, 0x7E000000#32, 0x34000000#32⟩,
    ⟨.uncondBranchReg, 0xFE000000#32, 0xD6000000#32⟩,
    ⟨.hints, 0xFFFFF01F#32, 0xD503201F#32⟩,
    ⟨.ldstRegUnsignedImm, 0x3B000000#32, 0x39000000#32⟩,
    ⟨.ldstRegImmPost, 0x3B200C00#32, 0x38000400#32⟩,
    ⟨.ldstRegImmPre, 0x3B200C00#32, 0x38000C00#32⟩,
    ⟨.addSubImm, 0x1F800000#32, 0x11000000#32⟩,
    ⟨.moveWide, 0x1F800000#32, 0x12800000#32⟩,
    ⟨.pcRel, 0x1F000000#32, 0x10000000#32⟩,
    ⟨.addSubShifted, 0x1F200000#32, 0x0B000000#32⟩,
    ⟨.logicalShifted, 0x1F000000#32, 0x0A000000#32⟩ ]

/-- `w` fits a row of the class table (R113). -/
def ClassRow.fits (r : ClassRow) (w : InstrWord) : Bool := w &&& r.mask == r.pattern

/-- The tag of the first row that fits, `unsupported` when none does (R114, R115). -/
def findClass : List ClassRow → InstrWord → ClassTag
  | [], _ => .unsupported
  | r :: rest, w => if r.fits w then r.tag else findClass rest w

/-- The `len` bits of a word from bit `lo` upwards. -/
def field (lo len : Nat) (w : InstrWord) : BitVec len := w.extractLsb' lo len

/-- The fields of a class cut out of the word at the places of its format rule (R116 to R130). -/
def cutFields (w : InstrWord) : ClassTag → InstrClass
  | .advSimdThreeSame => .advSimdThreeSame (field 30 1 w) (field 29 1 w) (field 22 2 w) (field 16 5 w) (field 11 5 w) (field 5 5 w) (field 0 5 w)
  | .cryptoAes => .cryptoAes (field 22 2 w) (field 12 5 w) (field 5 5 w) (field 0 5 w)
  | .uncondBranchImm => .uncondBranchImm (field 31 1 w) (field 0 26 w)
  | .condBranchImm => .condBranchImm (field 24 1 w) (field 5 19 w) (field 4 1 w) (field 0 4 w)
  | .compareBranch => .compareBranch (field 31 1 w) (field 24 1 w) (field 5 19 w) (field 0 5 w)
  | .uncondBranchReg => .uncondBranchReg (field 21 4 w) (field 16 5 w) (field 10 6 w) (field 5 5 w) (field 0 5 w)
  | .hints => .hints (field 8 4 w) (field 5 3 w)
  | .ldstRegUnsignedImm => .ldstRegUnsignedImm (field 30 2 w) (field 26 1 w) (field 22 2 w) (field 10 12 w) (field 5 5 w) (field 0 5 w)
  | .ldstRegImmPost => .ldstRegImmPost (field 30 2 w) (field 26 1 w) (field 22 2 w) (field 12 9 w) (field 5 5 w) (field 0 5 w)
  | .ldstRegImmPre => .ldstRegImmPre (field 30 2 w) (field 26 1 w) (field 22 2 w) (field 12 9 w) (field 5 5 w) (field 0 5 w)
  | .addSubImm => .addSubImm (field 31 1 w) (field 30 1 w) (field 29 1 w) (field 22 1 w) (field 10 12 w) (field 5 5 w) (field 0 5 w)
  | .moveWide => .moveWide (field 31 1 w) (field 29 2 w) (field 21 2 w) (field 5 16 w) (field 0 5 w)
  | .pcRel => .pcRel (field 31 1 w) (field 29 2 w) (field 5 19 w) (field 0 5 w)
  | .addSubShifted => .addSubShifted (field 31 1 w) (field 30 1 w) (field 29 1 w) (field 22 2 w) (field 16 5 w) (field 10 6 w) (field 5 5 w) (field 0 5 w)
  | .logicalShifted => .logicalShifted (field 31 1 w) (field 29 2 w) (field 22 2 w) (field 21 1 w) (field 16 5 w) (field 10 6 w) (field 5 5 w) (field 0 5 w)
  | .unsupported => .unsupported w

/-- `decode` of R111: exactly one class value for every word. -/
def decodeClass (w : InstrWord) : InstrClass := cutFields w (findClass classTable w)

/-- Selection inside the three-same class (spec/40_simd_three_same.md R153, R165). -/
def selectThreeSame (q u : BitVec 1) (size : BitVec 2) (rm : RegIdx) (opcode : BitVec 5) (rn rd : RegIdx) : Decoded :=
  if u = 0#1 ∧ opcode = 0b10000#5 then .instr (.addVector q size rm rn rd)
  else if opcode = 0b00011#5 then
    if u = 0#1 then
      if size = 0#2 then .instr (.andVector q rm rn rd)
      else if size = 1#2 then .instr (.bicVector q rm rn rd)
      else if size = 2#2 then .instr (.orrVector q rm rn rd)
      else .instr (.ornVector q rm rn rd)
    else
      if size = 0#2 then .instr (.eorVector q rm rn rd)
      else if size = 1#2 then .instr (.bslVector q rm rn rd)
      else if size = 2#2 then .instr (.bitVector q rm rn rd)
      else .instr (.bifVector q rm rn rd)
  else .reject .threeSameUnmatched

/-- Selection inside the AES class (spec/41_crypto_aes.md R190, R194). -/
def selectAes (size : BitVec 2) (opcode : BitVec 5) (rn rd : RegIdx) : Decoded :=
  if size = 0#2 then
    if opcode = 0b00100#5 then .instr (.aese rn rd)
    else if opcode = 0b00101#5 then .instr (.aesd rn rd)
    else if opcode = 0b00110#5 then .instr (.aesmc rn rd)
    else if opcode = 0b00111#5 then .instr (.aesimc rn rd)
    else .reject .aesUnmatched
  else .reject .aesUnmatched

/-- Selection inside the register-branch class (spec/42_branches_and_system.md R208 to R210, R214). -/
def selectBranchReg (opc : BitVec 4) (op2 : BitVec 5) (op3 : BitVec 6) (rn : RegIdx) (op4 : BitVec 5) : Decoded :=
  if op2 = 0b11111#5 ∧ op3 = 0#6 ∧ op4 = 0#5 then
    if opc = 0#4 then .instr (.br rn)
    else if opc = 1#4 then .instr (.blr rn)
    else if opc = 2#4 then .instr (.ret rn)
    else .reject .branchRegUnmatched
  else .reject .branchRegUnmatched

/-- The common decode of the load and store classes (spec/43_loads_and_stores.md R230): the operation, or
the site of R254 (`V = 0`, `opc[1] = 1`) or of R233 (a) (`V = 1`, `opc[1]:size > 4`). -/
def selectLdstOp (size : BitVec 2) (v : BitVec 1) (opc : BitVec 2) : Sum FaultSite LdstOp :=
  if v = 0#1 then
    if opc = 0#2 then
      if size = 0#2 then .inr .strb
      else if size = 1#2 then .inr .strh
      else if size = 2#2 then .inr .strW
      else .inr .strX
    else if opc = 1#2 then
      if size = 0#2 then .inr .ldrb
      else if size = 1#2 then .inr .ldrh
      else if size = 2#2 then .inr .ldrW
      else .inr .ldrX
    else .inl .ldstUnmatched
  else if opc = 0#2 then
    if size = 0#2 then .inr .strSimdB
    else if size = 1#2 then .inr .strSimdH
    else if size = 2#2 then .inr .strSimdS
    else .inr .strSimdD
  else if opc = 1#2 then
    if size = 0#2 then .inr .ldrSimdB
    else if size = 1#2 then .inr .ldrSimdH
    else if size = 2#2 then .inr .ldrSimdS
    else .inr .ldrSimdD
  else if size = 0#2 then
    if opc = 2#2 then .inr .strSimdQ else .inr .ldrSimdQ
  else .inl .ldstSimdSizeReserved

/-- The instruction of an operation in an addressing form (spec/43_loads_and_stores.md R230, R231). -/
def ldstInstr (rn rt : RegIdx) : LdstOp → AddrForm → Instr
  | .strb, .unsignedOffset imm12 => .strbOff imm12 rn rt
  | .strb, .postIndex imm9 => .strbPost imm9 rn rt
  | .strb, .preIndex imm9 => .strbPre imm9 rn rt
  | .ldrb, .unsignedOffset imm12 => .ldrbOff imm12 rn rt
  | .ldrb, .postIndex imm9 => .ldrbPost imm9 rn rt
  | .ldrb, .preIndex imm9 => .ldrbPre imm9 rn rt
  | .strh, .unsignedOffset imm12 => .strhOff imm12 rn rt
  | .strh, .postIndex imm9 => .strhPost imm9 rn rt
  | .strh, .preIndex imm9 => .strhPre imm9 rn rt
  | .ldrh, .unsignedOffset imm12 => .ldrhOff imm12 rn rt
  | .ldrh, .postIndex imm9 => .ldrhPost imm9 rn rt
  | .ldrh, .preIndex imm9 => .ldrhPre imm9 rn rt
  | .strW, .unsignedOffset imm12 => .strWOff imm12 rn rt
  | .strW, .postIndex imm9 => .strWPost imm9 rn rt
  | .strW, .preIndex imm9 => .strWPre imm9 rn rt
  | .ldrW, .unsignedOffset imm12 => .ldrWOff imm12 rn rt
  | .ldrW, .postIndex imm9 => .ldrWPost imm9 rn rt
  | .ldrW, .preIndex imm9 => .ldrWPre imm9 rn rt
  | .strX, .unsignedOffset imm12 => .strXOff imm12 rn rt
  | .strX, .postIndex imm9 => .strXPost imm9 rn rt
  | .strX, .preIndex imm9 => .strXPre imm9 rn rt
  | .ldrX, .unsignedOffset imm12 => .ldrXOff imm12 rn rt
  | .ldrX, .postIndex imm9 => .ldrXPost imm9 rn rt
  | .ldrX, .preIndex imm9 => .ldrXPre imm9 rn rt
  | .strSimdB, .unsignedOffset imm12 => .strSimdBOff imm12 rn rt
  | .strSimdB, .postIndex imm9 => .strSimdBPost imm9 rn rt
  | .strSimdB, .preIndex imm9 => .strSimdBPre imm9 rn rt
  | .ldrSimdB, .unsignedOffset imm12 => .ldrSimdBOff imm12 rn rt
  | .ldrSimdB, .postIndex imm9 => .ldrSimdBPost imm9 rn rt
  | .ldrSimdB, .preIndex imm9 => .ldrSimdBPre imm9 rn rt
  | .strSimdH, .unsignedOffset imm12 => .strSimdHOff imm12 rn rt
  | .strSimdH, .postIndex imm9 => .strSimdHPost imm9 rn rt
  | .strSimdH, .preIndex imm9 => .strSimdHPre imm9 rn rt
  | .ldrSimdH, .unsignedOffset imm12 => .ldrSimdHOff imm12 rn rt
  | .ldrSimdH, .postIndex imm9 => .ldrSimdHPost imm9 rn rt
  | .ldrSimdH, .preIndex imm9 => .ldrSimdHPre imm9 rn rt
  | .strSimdS, .unsignedOffset imm12 => .strSimdSOff imm12 rn rt
  | .strSimdS, .postIndex imm9 => .strSimdSPost imm9 rn rt
  | .strSimdS, .preIndex imm9 => .strSimdSPre imm9 rn rt
  | .ldrSimdS, .unsignedOffset imm12 => .ldrSimdSOff imm12 rn rt
  | .ldrSimdS, .postIndex imm9 => .ldrSimdSPost imm9 rn rt
  | .ldrSimdS, .preIndex imm9 => .ldrSimdSPre imm9 rn rt
  | .strSimdD, .unsignedOffset imm12 => .strSimdDOff imm12 rn rt
  | .strSimdD, .postIndex imm9 => .strSimdDPost imm9 rn rt
  | .strSimdD, .preIndex imm9 => .strSimdDPre imm9 rn rt
  | .ldrSimdD, .unsignedOffset imm12 => .ldrSimdDOff imm12 rn rt
  | .ldrSimdD, .postIndex imm9 => .ldrSimdDPost imm9 rn rt
  | .ldrSimdD, .preIndex imm9 => .ldrSimdDPre imm9 rn rt
  | .strSimdQ, .unsignedOffset imm12 => .strSimdQOff imm12 rn rt
  | .strSimdQ, .postIndex imm9 => .strSimdQPost imm9 rn rt
  | .strSimdQ, .preIndex imm9 => .strSimdQPre imm9 rn rt
  | .ldrSimdQ, .unsignedOffset imm12 => .ldrSimdQOff imm12 rn rt
  | .ldrSimdQ, .postIndex imm9 => .ldrSimdQPost imm9 rn rt
  | .ldrSimdQ, .preIndex imm9 => .ldrSimdQPre imm9 rn rt

/-- Selection inside the load and store classes. -/
def selectLdst (size : BitVec 2) (v : BitVec 1) (opc : BitVec 2) (form : AddrForm) (rn rt : RegIdx) : Decoded :=
  match selectLdstOp size v opc with
  | .inl site => .reject site
  | .inr op => .instr (ldstInstr rn rt op form)

/-- Selection inside the immediate add and subtract class (spec/44_dp_immediate.md R260). -/
def selectAddSubImm (sf op sBit sh : BitVec 1) (imm12 : BitVec 12) (rn rd : RegIdx) : Decoded :=
  if op = 0#1 then
    if sBit = 0#1 then .instr (.addImm sf sh imm12 rn rd) else .instr (.addsImm sf sh imm12 rn rd)
  else
    if sBit = 0#1 then .instr (.subImm sf sh imm12 rn rd) else .instr (.subsImm sf sh imm12 rn rd)

/-- Selection inside the move-wide class; `opc = 0b01` is reserved (spec/44_dp_immediate.md R267 (a)). -/
def selectMoveWide (sf : BitVec 1) (opc hw : BitVec 2) (imm16 : BitVec 16) (rd : RegIdx) : Decoded :=
  if opc = 0#2 then .instr (.movn sf hw imm16 rd)
  else if opc = 2#2 then .instr (.movz sf hw imm16 rd)
  else if opc = 3#2 then .instr (.movk sf hw imm16 rd)
  else .reject .moveWideOpcReserved

/-- Selection inside the shifted-register add and subtract class (spec/45_dp_register.md R280). -/
def selectAddSubShifted (sf op sBit : BitVec 1) (shift : BitVec 2) (rm : RegIdx) (imm6 : BitVec 6) (rn rd : RegIdx) :
    Decoded :=
  if op = 0#1 then
    if sBit = 0#1 then .instr (.addShifted sf shift rm imm6 rn rd) else .instr (.addsShifted sf shift rm imm6 rn rd)
  else
    if sBit = 0#1 then .instr (.subShifted sf shift rm imm6 rn rd) else .instr (.subsShifted sf shift rm imm6 rn rd)

/-- Selection inside the shifted-register logical class by `opc:N` (spec/45_dp_register.md R287). -/
def selectLogicalShifted (sf : BitVec 1) (opc shift : BitVec 2) (n : BitVec 1) (rm : RegIdx) (imm6 : BitVec 6)
    (rn rd : RegIdx) : Decoded :=
  if opc = 0#2 then
    if n = 0#1 then .instr (.andShifted sf shift rm imm6 rn rd) else .instr (.bicShifted sf shift rm imm6 rn rd)
  else if opc = 1#2 then
    if n = 0#1 then .instr (.orrShifted sf shift rm imm6 rn rd) else .instr (.ornShifted sf shift rm imm6 rn rd)
  else if opc = 2#2 then
    if n = 0#1 then .instr (.eorShifted sf shift rm imm6 rn rd) else .instr (.eonShifted sf shift rm imm6 rn rd)
  else
    if n = 0#1 then .instr (.andsShifted sf shift rm imm6 rn rd) else .instr (.bicsShifted sf shift rm imm6 rn rd)

/-- From class value to instruction, or the rejection the class's file names (R133, R135). -/
def selectInstr : InstrClass → Decoded
  | .advSimdThreeSame q u size rm opcode rn rd => selectThreeSame q u size rm opcode rn rd
  | .cryptoAes size opcode rn rd => selectAes size opcode rn rd
  | .uncondBranchImm op imm26 => if op = 0#1 then .instr (.b imm26) else .instr (.bl imm26)
  | .condBranchImm o1 imm19 o0 cond =>
    if o1 = 0#1 ∧ o0 = 0#1 then .instr (.bCond imm19 cond) else .reject .condBranchUnmatched
  | .compareBranch sf op imm19 rt => if op = 0#1 then .instr (.cbz sf imm19 rt) else .instr (.cbnz sf imm19 rt)
  | .uncondBranchReg opc op2 op3 rn op4 => selectBranchReg opc op2 op3 rn op4
  | .hints crm op2 => if crm = 0#4 ∧ op2 = 0#3 then .instr .nop else .reject .hintUnmatched
  | .ldstRegUnsignedImm size v opc imm12 rn rt => selectLdst size v opc (.unsignedOffset imm12) rn rt
  | .ldstRegImmPost size v opc imm9 rn rt => selectLdst size v opc (.postIndex imm9) rn rt
  | .ldstRegImmPre size v opc imm9 rn rt => selectLdst size v opc (.preIndex imm9) rn rt
  | .addSubImm sf op sBit sh imm12 rn rd => selectAddSubImm sf op sBit sh imm12 rn rd
  | .moveWide sf opc hw imm16 rd => selectMoveWide sf opc hw imm16 rd
  | .pcRel op immlo immhi rd => if op = 0#1 then .instr (.adr immlo immhi rd) else .instr (.adrp immlo immhi rd)
  | .addSubShifted sf op sBit shift rm imm6 rn rd => selectAddSubShifted sf op sBit shift rm imm6 rn rd
  | .logicalShifted sf opc shift n rm imm6 rn rd => selectLogicalShifted sf opc shift n rm imm6 rn rd
  | .unsupported _ => .reject .unsupportedWord

/-- The decoder: total on any word, rejecting by the name of a fault site. -/
def decode (w : InstrWord) : Decoded := selectInstr (decodeClass w)

/-- The word of four bytes, the first at the lowest address and least significant (R110,
spec/20_memory.md R74). -/
def wordOfBytes (b0 b1 b2 b3 : Byte) : InstrWord := b3 ++ b2 ++ b1 ++ b0

/-- The decoder on the four bytes of an instruction, lowest address first. -/
def decodeBytes (b0 b1 b2 b3 : Byte) : Decoded := decode (wordOfBytes b0 b1 b2 b3)

/-- What the decoder reads from an instruction whose bits are `w`, numbered as the opcode table numbers
them, bits from `nbits` upwards being 0. -/
def decodeTableWord (nbits w : Nat) : Option Instr :=
  let bits : InstrWord := BitVec.ofNat 32 (w % 2 ^ nbits)
  match decodeBytes (bits.extractLsb' 0 8) (bits.extractLsb' 8 8) (bits.extractLsb' 16 8) (bits.extractLsb' 24 8) with
  | .instr i => some i
  | .reject _ => none

/-- The class value of an instruction: its row's fixed fields and its operand fields. -/
def Instr.toClass : Instr → InstrClass
  | .addVector q size rm rn rd => .advSimdThreeSame q 0#1 size rm 0b10000#5 rn rd
  | .andVector q rm rn rd => .advSimdThreeSame q 0#1 0#2 rm 0b00011#5 rn rd
  | .bicVector q rm rn rd => .advSimdThreeSame q 0#1 1#2 rm 0b00011#5 rn rd
  | .orrVector q rm rn rd => .advSimdThreeSame q 0#1 2#2 rm 0b00011#5 rn rd
  | .ornVector q rm rn rd => .advSimdThreeSame q 0#1 3#2 rm 0b00011#5 rn rd
  | .eorVector q rm rn rd => .advSimdThreeSame q 1#1 0#2 rm 0b00011#5 rn rd
  | .bslVector q rm rn rd => .advSimdThreeSame q 1#1 1#2 rm 0b00011#5 rn rd
  | .bitVector q rm rn rd => .advSimdThreeSame q 1#1 2#2 rm 0b00011#5 rn rd
  | .bifVector q rm rn rd => .advSimdThreeSame q 1#1 3#2 rm 0b00011#5 rn rd
  | .aese rn rd => .cryptoAes 0#2 0b00100#5 rn rd
  | .aesd rn rd => .cryptoAes 0#2 0b00101#5 rn rd
  | .aesmc rn rd => .cryptoAes 0#2 0b00110#5 rn rd
  | .aesimc rn rd => .cryptoAes 0#2 0b00111#5 rn rd
  | .b imm26 => .uncondBranchImm 0#1 imm26
  | .bl imm26 => .uncondBranchImm 1#1 imm26
  | .bCond imm19 cond => .condBranchImm 0#1 imm19 0#1 cond
  | .cbz sf imm19 rt => .compareBranch sf 0#1 imm19 rt
  | .cbnz sf imm19 rt => .compareBranch sf 1#1 imm19 rt
  | .br rn => .uncondBranchReg 0#4 0b11111#5 0#6 rn 0#5
  | .blr rn => .uncondBranchReg 1#4 0b11111#5 0#6 rn 0#5
  | .ret rn => .uncondBranchReg 2#4 0b11111#5 0#6 rn 0#5
  | .nop => .hints 0#4 0#3
  | .strbOff imm12 rn rt => .ldstRegUnsignedImm 0#2 0#1 0#2 imm12 rn rt
  | .ldrbOff imm12 rn rt => .ldstRegUnsignedImm 0#2 0#1 1#2 imm12 rn rt
  | .strhOff imm12 rn rt => .ldstRegUnsignedImm 1#2 0#1 0#2 imm12 rn rt
  | .ldrhOff imm12 rn rt => .ldstRegUnsignedImm 1#2 0#1 1#2 imm12 rn rt
  | .strWOff imm12 rn rt => .ldstRegUnsignedImm 2#2 0#1 0#2 imm12 rn rt
  | .ldrWOff imm12 rn rt => .ldstRegUnsignedImm 2#2 0#1 1#2 imm12 rn rt
  | .strXOff imm12 rn rt => .ldstRegUnsignedImm 3#2 0#1 0#2 imm12 rn rt
  | .ldrXOff imm12 rn rt => .ldstRegUnsignedImm 3#2 0#1 1#2 imm12 rn rt
  | .strSimdBOff imm12 rn rt => .ldstRegUnsignedImm 0#2 1#1 0#2 imm12 rn rt
  | .ldrSimdBOff imm12 rn rt => .ldstRegUnsignedImm 0#2 1#1 1#2 imm12 rn rt
  | .strSimdHOff imm12 rn rt => .ldstRegUnsignedImm 1#2 1#1 0#2 imm12 rn rt
  | .ldrSimdHOff imm12 rn rt => .ldstRegUnsignedImm 1#2 1#1 1#2 imm12 rn rt
  | .strSimdSOff imm12 rn rt => .ldstRegUnsignedImm 2#2 1#1 0#2 imm12 rn rt
  | .ldrSimdSOff imm12 rn rt => .ldstRegUnsignedImm 2#2 1#1 1#2 imm12 rn rt
  | .strSimdDOff imm12 rn rt => .ldstRegUnsignedImm 3#2 1#1 0#2 imm12 rn rt
  | .ldrSimdDOff imm12 rn rt => .ldstRegUnsignedImm 3#2 1#1 1#2 imm12 rn rt
  | .strSimdQOff imm12 rn rt => .ldstRegUnsignedImm 0#2 1#1 2#2 imm12 rn rt
  | .ldrSimdQOff imm12 rn rt => .ldstRegUnsignedImm 0#2 1#1 3#2 imm12 rn rt
  | .strbPost imm9 rn rt => .ldstRegImmPost 0#2 0#1 0#2 imm9 rn rt
  | .ldrbPost imm9 rn rt => .ldstRegImmPost 0#2 0#1 1#2 imm9 rn rt
  | .strhPost imm9 rn rt => .ldstRegImmPost 1#2 0#1 0#2 imm9 rn rt
  | .ldrhPost imm9 rn rt => .ldstRegImmPost 1#2 0#1 1#2 imm9 rn rt
  | .strWPost imm9 rn rt => .ldstRegImmPost 2#2 0#1 0#2 imm9 rn rt
  | .ldrWPost imm9 rn rt => .ldstRegImmPost 2#2 0#1 1#2 imm9 rn rt
  | .strXPost imm9 rn rt => .ldstRegImmPost 3#2 0#1 0#2 imm9 rn rt
  | .ldrXPost imm9 rn rt => .ldstRegImmPost 3#2 0#1 1#2 imm9 rn rt
  | .strSimdBPost imm9 rn rt => .ldstRegImmPost 0#2 1#1 0#2 imm9 rn rt
  | .ldrSimdBPost imm9 rn rt => .ldstRegImmPost 0#2 1#1 1#2 imm9 rn rt
  | .strSimdHPost imm9 rn rt => .ldstRegImmPost 1#2 1#1 0#2 imm9 rn rt
  | .ldrSimdHPost imm9 rn rt => .ldstRegImmPost 1#2 1#1 1#2 imm9 rn rt
  | .strSimdSPost imm9 rn rt => .ldstRegImmPost 2#2 1#1 0#2 imm9 rn rt
  | .ldrSimdSPost imm9 rn rt => .ldstRegImmPost 2#2 1#1 1#2 imm9 rn rt
  | .strSimdDPost imm9 rn rt => .ldstRegImmPost 3#2 1#1 0#2 imm9 rn rt
  | .ldrSimdDPost imm9 rn rt => .ldstRegImmPost 3#2 1#1 1#2 imm9 rn rt
  | .strSimdQPost imm9 rn rt => .ldstRegImmPost 0#2 1#1 2#2 imm9 rn rt
  | .ldrSimdQPost imm9 rn rt => .ldstRegImmPost 0#2 1#1 3#2 imm9 rn rt
  | .strbPre imm9 rn rt => .ldstRegImmPre 0#2 0#1 0#2 imm9 rn rt
  | .ldrbPre imm9 rn rt => .ldstRegImmPre 0#2 0#1 1#2 imm9 rn rt
  | .strhPre imm9 rn rt => .ldstRegImmPre 1#2 0#1 0#2 imm9 rn rt
  | .ldrhPre imm9 rn rt => .ldstRegImmPre 1#2 0#1 1#2 imm9 rn rt
  | .strWPre imm9 rn rt => .ldstRegImmPre 2#2 0#1 0#2 imm9 rn rt
  | .ldrWPre imm9 rn rt => .ldstRegImmPre 2#2 0#1 1#2 imm9 rn rt
  | .strXPre imm9 rn rt => .ldstRegImmPre 3#2 0#1 0#2 imm9 rn rt
  | .ldrXPre imm9 rn rt => .ldstRegImmPre 3#2 0#1 1#2 imm9 rn rt
  | .strSimdBPre imm9 rn rt => .ldstRegImmPre 0#2 1#1 0#2 imm9 rn rt
  | .ldrSimdBPre imm9 rn rt => .ldstRegImmPre 0#2 1#1 1#2 imm9 rn rt
  | .strSimdHPre imm9 rn rt => .ldstRegImmPre 1#2 1#1 0#2 imm9 rn rt
  | .ldrSimdHPre imm9 rn rt => .ldstRegImmPre 1#2 1#1 1#2 imm9 rn rt
  | .strSimdSPre imm9 rn rt => .ldstRegImmPre 2#2 1#1 0#2 imm9 rn rt
  | .ldrSimdSPre imm9 rn rt => .ldstRegImmPre 2#2 1#1 1#2 imm9 rn rt
  | .strSimdDPre imm9 rn rt => .ldstRegImmPre 3#2 1#1 0#2 imm9 rn rt
  | .ldrSimdDPre imm9 rn rt => .ldstRegImmPre 3#2 1#1 1#2 imm9 rn rt
  | .strSimdQPre imm9 rn rt => .ldstRegImmPre 0#2 1#1 2#2 imm9 rn rt
  | .ldrSimdQPre imm9 rn rt => .ldstRegImmPre 0#2 1#1 3#2 imm9 rn rt
  | .addImm sf sh imm12 rn rd => .addSubImm sf 0#1 0#1 sh imm12 rn rd
  | .addsImm sf sh imm12 rn rd => .addSubImm sf 0#1 1#1 sh imm12 rn rd
  | .subImm sf sh imm12 rn rd => .addSubImm sf 1#1 0#1 sh imm12 rn rd
  | .subsImm sf sh imm12 rn rd => .addSubImm sf 1#1 1#1 sh imm12 rn rd
  | .movn sf hw imm16 rd => .moveWide sf 0#2 hw imm16 rd
  | .movz sf hw imm16 rd => .moveWide sf 2#2 hw imm16 rd
  | .movk sf hw imm16 rd => .moveWide sf 3#2 hw imm16 rd
  | .adr immlo immhi rd => .pcRel 0#1 immlo immhi rd
  | .adrp immlo immhi rd => .pcRel 1#1 immlo immhi rd
  | .addShifted sf shift rm imm6 rn rd => .addSubShifted sf 0#1 0#1 shift rm imm6 rn rd
  | .addsShifted sf shift rm imm6 rn rd => .addSubShifted sf 0#1 1#1 shift rm imm6 rn rd
  | .subShifted sf shift rm imm6 rn rd => .addSubShifted sf 1#1 0#1 shift rm imm6 rn rd
  | .subsShifted sf shift rm imm6 rn rd => .addSubShifted sf 1#1 1#1 shift rm imm6 rn rd
  | .andShifted sf shift rm imm6 rn rd => .logicalShifted sf 0#2 shift 0#1 rm imm6 rn rd
  | .bicShifted sf shift rm imm6 rn rd => .logicalShifted sf 0#2 shift 1#1 rm imm6 rn rd
  | .orrShifted sf shift rm imm6 rn rd => .logicalShifted sf 1#2 shift 0#1 rm imm6 rn rd
  | .ornShifted sf shift rm imm6 rn rd => .logicalShifted sf 1#2 shift 1#1 rm imm6 rn rd
  | .eorShifted sf shift rm imm6 rn rd => .logicalShifted sf 2#2 shift 0#1 rm imm6 rn rd
  | .eonShifted sf shift rm imm6 rn rd => .logicalShifted sf 2#2 shift 1#1 rm imm6 rn rd
  | .andsShifted sf shift rm imm6 rn rd => .logicalShifted sf 3#2 shift 0#1 rm imm6 rn rd
  | .bicsShifted sf shift rm imm6 rn rd => .logicalShifted sf 3#2 shift 1#1 rm imm6 rn rd

/-- The word of a class value, field by field as its format rule draws it (R116 to R130). -/
def encodeClass : InstrClass → InstrWord
  | .advSimdThreeSame q u size rm opcode rn rd =>
    0b0#1 ++ q ++ u ++ 0b01110#5 ++ size ++ 0b1#1 ++ rm ++ opcode ++ 0b1#1 ++ rn ++ rd
  | .cryptoAes size opcode rn rd =>
    0b01001110#8 ++ size ++ 0b10100#5 ++ opcode ++ 0b10#2 ++ rn ++ rd
  | .uncondBranchImm op imm26 =>
    op ++ 0b00101#5 ++ imm26
  | .condBranchImm o1 imm19 o0 cond =>
    0b0101010#7 ++ o1 ++ imm19 ++ o0 ++ cond
  | .compareBranch sf op imm19 rt =>
    sf ++ 0b011010#6 ++ op ++ imm19 ++ rt
  | .uncondBranchReg opc op2 op3 rn op4 =>
    0b1101011#7 ++ opc ++ op2 ++ op3 ++ rn ++ op4
  | .hints crm op2 =>
    0b11010101000000110010#20 ++ crm ++ op2 ++ 0b11111#5
  | .ldstRegUnsignedImm size v opc imm12 rn rt =>
    size ++ 0b111#3 ++ v ++ 0b01#2 ++ opc ++ imm12 ++ rn ++ rt
  | .ldstRegImmPost size v opc imm9 rn rt =>
    size ++ 0b111#3 ++ v ++ 0b00#2 ++ opc ++ 0b0#1 ++ imm9 ++ 0b01#2 ++ rn ++ rt
  | .ldstRegImmPre size v opc imm9 rn rt =>
    size ++ 0b111#3 ++ v ++ 0b00#2 ++ opc ++ 0b0#1 ++ imm9 ++ 0b11#2 ++ rn ++ rt
  | .addSubImm sf op sBit sh imm12 rn rd =>
    sf ++ op ++ sBit ++ 0b100010#6 ++ sh ++ imm12 ++ rn ++ rd
  | .moveWide sf opc hw imm16 rd =>
    sf ++ opc ++ 0b100101#6 ++ hw ++ imm16 ++ rd
  | .pcRel op immlo immhi rd =>
    op ++ immlo ++ 0b10000#5 ++ immhi ++ rd
  | .addSubShifted sf op sBit shift rm imm6 rn rd =>
    sf ++ op ++ sBit ++ 0b01011#5 ++ shift ++ 0b0#1 ++ rm ++ imm6 ++ rn ++ rd
  | .logicalShifted sf opc shift n rm imm6 rn rd =>
    sf ++ opc ++ 0b01010#5 ++ shift ++ n ++ rm ++ imm6 ++ rn ++ rd
  | .unsupported word => word

/-- The word of an instruction. -/
def encode (i : Instr) : InstrWord := encodeClass i.toClass

/-- The bytes of an instruction as they stand in memory, lowest address first
(spec/70_reset_and_hazards.md R342). -/
def encodeBytes (i : Instr) : List Byte :=
  [(encode i).extractLsb' 0 8, (encode i).extractLsb' 8 8, (encode i).extractLsb' 16 8, (encode i).extractLsb' 24 8]

/-- The row of spec/opcode_table.json an instruction stands for (R141), copied from the table: a second
writing of the encodings, which the decoder does not use and is held against. -/
def Instr.opcodeRow : Instr → OpcodeRow
  | .addVector _ _ _ _ _ => ⟨"ADD__vector", 0xBF20FC00#32, 0x0E208400#32⟩
  | .andVector _ _ _ _ => ⟨"AND__vector", 0xBFE0FC00#32, 0x0E201C00#32⟩
  | .bicVector _ _ _ _ => ⟨"BIC__vector__register", 0xBFE0FC00#32, 0x0E601C00#32⟩
  | .orrVector _ _ _ _ => ⟨"ORR__vector__register", 0xBFE0FC00#32, 0x0EA01C00#32⟩
  | .ornVector _ _ _ _ => ⟨"ORN__vector", 0xBFE0FC00#32, 0x0EE01C00#32⟩
  | .eorVector _ _ _ _ => ⟨"EOR__vector", 0xBFE0FC00#32, 0x2E201C00#32⟩
  | .bslVector _ _ _ _ => ⟨"BSL", 0xBFE0FC00#32, 0x2E601C00#32⟩
  | .bitVector _ _ _ _ => ⟨"BIT", 0xBFE0FC00#32, 0x2EA01C00#32⟩
  | .bifVector _ _ _ _ => ⟨"BIF", 0xBFE0FC00#32, 0x2EE01C00#32⟩
  | .aese _ _ => ⟨"AESE", 0xFFFFFC00#32, 0x4E284800#32⟩
  | .aesd _ _ => ⟨"AESD", 0xFFFFFC00#32, 0x4E285800#32⟩
  | .aesmc _ _ => ⟨"AESMC", 0xFFFFFC00#32, 0x4E286800#32⟩
  | .aesimc _ _ => ⟨"AESIMC", 0xFFFFFC00#32, 0x4E287800#32⟩
  | .b _ => ⟨"B", 0xFC000000#32, 0x14000000#32⟩
  | .bl _ => ⟨"BL", 0xFC000000#32, 0x94000000#32⟩
  | .bCond _ _ => ⟨"B.cond", 0xFF000010#32, 0x54000000#32⟩
  | .cbz _ _ _ => ⟨"CBZ", 0x7F000000#32, 0x34000000#32⟩
  | .cbnz _ _ _ => ⟨"CBNZ", 0x7F000000#32, 0x35000000#32⟩
  | .br _ => ⟨"BR", 0xFFFFFC1F#32, 0xD61F0000#32⟩
  | .blr _ => ⟨"BLR", 0xFFFFFC1F#32, 0xD63F0000#32⟩
  | .ret _ => ⟨"RET", 0xFFFFFC1F#32, 0xD65F0000#32⟩
  | .nop => ⟨"NOP", 0xFFFFFFFF#32, 0xD503201F#32⟩
  | .strbOff _ _ _ => ⟨"STRB__unsigned_offset", 0xFFC00000#32, 0x39000000#32⟩
  | .ldrbOff _ _ _ => ⟨"LDRB__unsigned_offset", 0xFFC00000#32, 0x39400000#32⟩
  | .strhOff _ _ _ => ⟨"STRH__unsigned_offset", 0xFFC00000#32, 0x79000000#32⟩
  | .ldrhOff _ _ _ => ⟨"LDRH__unsigned_offset", 0xFFC00000#32, 0x79400000#32⟩
  | .strWOff _ _ _ => ⟨"STR__32-bit___unsigned_offset", 0xFFC00000#32, 0xB9000000#32⟩
  | .ldrWOff _ _ _ => ⟨"LDR__32-bit___unsigned_offset", 0xFFC00000#32, 0xB9400000#32⟩
  | .strXOff _ _ _ => ⟨"STR__64-bit___unsigned_offset", 0xFFC00000#32, 0xF9000000#32⟩
  | .ldrXOff _ _ _ => ⟨"LDR__64-bit___unsigned_offset", 0xFFC00000#32, 0xF9400000#32⟩
  | .strSimdBOff _ _ _ => ⟨"STR__B___SIMD_FP__unsigned_offset", 0xFFC00000#32, 0x3D000000#32⟩
  | .ldrSimdBOff _ _ _ => ⟨"LDR__B___SIMD_FP__unsigned_offset", 0xFFC00000#32, 0x3D400000#32⟩
  | .strSimdHOff _ _ _ => ⟨"STR__H___SIMD_FP__unsigned_offset", 0xFFC00000#32, 0x7D000000#32⟩
  | .ldrSimdHOff _ _ _ => ⟨"LDR__H___SIMD_FP__unsigned_offset", 0xFFC00000#32, 0x7D400000#32⟩
  | .strSimdSOff _ _ _ => ⟨"STR__S___SIMD_FP__unsigned_offset", 0xFFC00000#32, 0xBD000000#32⟩
  | .ldrSimdSOff _ _ _ => ⟨"LDR__S___SIMD_FP__unsigned_offset", 0xFFC00000#32, 0xBD400000#32⟩
  | .strSimdDOff _ _ _ => ⟨"STR__D___SIMD_FP__unsigned_offset", 0xFFC00000#32, 0xFD000000#32⟩
  | .ldrSimdDOff _ _ _ => ⟨"LDR__D___SIMD_FP__unsigned_offset", 0xFFC00000#32, 0xFD400000#32⟩
  | .strSimdQOff _ _ _ => ⟨"STR__Q___SIMD_FP__unsigned_offset", 0xFFC00000#32, 0x3D800000#32⟩
  | .ldrSimdQOff _ _ _ => ⟨"LDR__Q___SIMD_FP__unsigned_offset", 0xFFC00000#32, 0x3DC00000#32⟩
  | .strbPost _ _ _ => ⟨"STRB__post-index", 0xFFE00C00#32, 0x38000400#32⟩
  | .ldrbPost _ _ _ => ⟨"LDRB__post-index", 0xFFE00C00#32, 0x38400400#32⟩
  | .strhPost _ _ _ => ⟨"STRH__post-index", 0xFFE00C00#32, 0x78000400#32⟩
  | .ldrhPost _ _ _ => ⟨"LDRH__post-index", 0xFFE00C00#32, 0x78400400#32⟩
  | .strWPost _ _ _ => ⟨"STR__32-bit___post-index", 0xFFE00C00#32, 0xB8000400#32⟩
  | .ldrWPost _ _ _ => ⟨"LDR__32-bit___post-index", 0xFFE00C00#32, 0xB8400400#32⟩
  | .strXPost _ _ _ => ⟨"STR__64-bit___post-index", 0xFFE00C00#32, 0xF8000400#32⟩
  | .ldrXPost _ _ _ => ⟨"LDR__64-bit___post-index", 0xFFE00C00#32, 0xF8400400#32⟩
  | .strSimdBPost _ _ _ => ⟨"STR__B___SIMD_FP__post-index", 0xFFE00C00#32, 0x3C000400#32⟩
  | .ldrSimdBPost _ _ _ => ⟨"LDR__B___SIMD_FP__post-index", 0xFFE00C00#32, 0x3C400400#32⟩
  | .strSimdHPost _ _ _ => ⟨"STR__H___SIMD_FP__post-index", 0xFFE00C00#32, 0x7C000400#32⟩
  | .ldrSimdHPost _ _ _ => ⟨"LDR__H___SIMD_FP__post-index", 0xFFE00C00#32, 0x7C400400#32⟩
  | .strSimdSPost _ _ _ => ⟨"STR__S___SIMD_FP__post-index", 0xFFE00C00#32, 0xBC000400#32⟩
  | .ldrSimdSPost _ _ _ => ⟨"LDR__S___SIMD_FP__post-index", 0xFFE00C00#32, 0xBC400400#32⟩
  | .strSimdDPost _ _ _ => ⟨"STR__D___SIMD_FP__post-index", 0xFFE00C00#32, 0xFC000400#32⟩
  | .ldrSimdDPost _ _ _ => ⟨"LDR__D___SIMD_FP__post-index", 0xFFE00C00#32, 0xFC400400#32⟩
  | .strSimdQPost _ _ _ => ⟨"STR__Q___SIMD_FP__post-index", 0xFFE00C00#32, 0x3C800400#32⟩
  | .ldrSimdQPost _ _ _ => ⟨"LDR__Q___SIMD_FP__post-index", 0xFFE00C00#32, 0x3CC00400#32⟩
  | .strbPre _ _ _ => ⟨"STRB__pre-index", 0xFFE00C00#32, 0x38000C00#32⟩
  | .ldrbPre _ _ _ => ⟨"LDRB__pre-index", 0xFFE00C00#32, 0x38400C00#32⟩
  | .strhPre _ _ _ => ⟨"STRH__pre-index", 0xFFE00C00#32, 0x78000C00#32⟩
  | .ldrhPre _ _ _ => ⟨"LDRH__pre-index", 0xFFE00C00#32, 0x78400C00#32⟩
  | .strWPre _ _ _ => ⟨"STR__32-bit___pre-index", 0xFFE00C00#32, 0xB8000C00#32⟩
  | .ldrWPre _ _ _ => ⟨"LDR__32-bit___pre-index", 0xFFE00C00#32, 0xB8400C00#32⟩
  | .strXPre _ _ _ => ⟨"STR__64-bit___pre-index", 0xFFE00C00#32, 0xF8000C00#32⟩
  | .ldrXPre _ _ _ => ⟨"LDR__64-bit___pre-index", 0xFFE00C00#32, 0xF8400C00#32⟩
  | .strSimdBPre _ _ _ => ⟨"STR__B___SIMD_FP__pre-index", 0xFFE00C00#32, 0x3C000C00#32⟩
  | .ldrSimdBPre _ _ _ => ⟨"LDR__B___SIMD_FP__pre-index", 0xFFE00C00#32, 0x3C400C00#32⟩
  | .strSimdHPre _ _ _ => ⟨"STR__H___SIMD_FP__pre-index", 0xFFE00C00#32, 0x7C000C00#32⟩
  | .ldrSimdHPre _ _ _ => ⟨"LDR__H___SIMD_FP__pre-index", 0xFFE00C00#32, 0x7C400C00#32⟩
  | .strSimdSPre _ _ _ => ⟨"STR__S___SIMD_FP__pre-index", 0xFFE00C00#32, 0xBC000C00#32⟩
  | .ldrSimdSPre _ _ _ => ⟨"LDR__S___SIMD_FP__pre-index", 0xFFE00C00#32, 0xBC400C00#32⟩
  | .strSimdDPre _ _ _ => ⟨"STR__D___SIMD_FP__pre-index", 0xFFE00C00#32, 0xFC000C00#32⟩
  | .ldrSimdDPre _ _ _ => ⟨"LDR__D___SIMD_FP__pre-index", 0xFFE00C00#32, 0xFC400C00#32⟩
  | .strSimdQPre _ _ _ => ⟨"STR__Q___SIMD_FP__pre-index", 0xFFE00C00#32, 0x3C800C00#32⟩
  | .ldrSimdQPre _ _ _ => ⟨"LDR__Q___SIMD_FP__pre-index", 0xFFE00C00#32, 0x3CC00C00#32⟩
  | .addImm _ _ _ _ _ => ⟨"ADD__immediate", 0x7F800000#32, 0x11000000#32⟩
  | .addsImm _ _ _ _ _ => ⟨"ADDS__immediate", 0x7F800000#32, 0x31000000#32⟩
  | .subImm _ _ _ _ _ => ⟨"SUB__immediate", 0x7F800000#32, 0x51000000#32⟩
  | .subsImm _ _ _ _ _ => ⟨"SUBS__immediate", 0x7F800000#32, 0x71000000#32⟩
  | .movn _ _ _ _ => ⟨"MOVN", 0x7F800000#32, 0x12800000#32⟩
  | .movz _ _ _ _ => ⟨"MOVZ", 0x7F800000#32, 0x52800000#32⟩
  | .movk _ _ _ _ => ⟨"MOVK", 0x7F800000#32, 0x72800000#32⟩
  | .adr _ _ _ => ⟨"ADR", 0x9F000000#32, 0x10000000#32⟩
  | .adrp _ _ _ => ⟨"ADRP", 0x9F000000#32, 0x90000000#32⟩
  | .addShifted _ _ _ _ _ _ => ⟨"ADD__shifted_register", 0x7F200000#32, 0x0B000000#32⟩
  | .addsShifted _ _ _ _ _ _ => ⟨"ADDS__shifted_register", 0x7F200000#32, 0x2B000000#32⟩
  | .subShifted _ _ _ _ _ _ => ⟨"SUB__shifted_register", 0x7F200000#32, 0x4B000000#32⟩
  | .subsShifted _ _ _ _ _ _ => ⟨"SUBS__shifted_register", 0x7F200000#32, 0x6B000000#32⟩
  | .andShifted _ _ _ _ _ _ => ⟨"AND__shifted_register", 0x7F200000#32, 0x0A000000#32⟩
  | .bicShifted _ _ _ _ _ _ => ⟨"BIC__shifted_register", 0x7F200000#32, 0x0A200000#32⟩
  | .orrShifted _ _ _ _ _ _ => ⟨"ORR__shifted_register", 0x7F200000#32, 0x2A000000#32⟩
  | .ornShifted _ _ _ _ _ _ => ⟨"ORN__shifted_register", 0x7F200000#32, 0x2A200000#32⟩
  | .eorShifted _ _ _ _ _ _ => ⟨"EOR__shifted_register", 0x7F200000#32, 0x4A000000#32⟩
  | .eonShifted _ _ _ _ _ _ => ⟨"EON__shifted_register", 0x7F200000#32, 0x4A200000#32⟩
  | .andsShifted _ _ _ _ _ _ => ⟨"ANDS__shifted_register", 0x7F200000#32, 0x6A000000#32⟩
  | .bicsShifted _ _ _ _ _ _ => ⟨"BICS__shifted_register", 0x7F200000#32, 0x6A200000#32⟩

/-- `w` fits a row of the opcode table: `(w AND mask) = match` (R141). -/
def OpcodeRow.fits (r : OpcodeRow) (w : InstrWord) : Bool := w &&& r.mask == r.pattern

end Sys2Proof
end

