-- ==== Sys2Proof/Machine/Fetch.lean ====
section
/-! DEFINITION. What a step does before it executes: the pc alignment test, the fetch and the decode
(spec/70_reset_and_hazards.md R345 steps 1 to 3), and the placing of a word where the fetch reads. -/

namespace Sys2Proof.Machine

/-- The pc test first, then the fetch of the word at pc, then its decoding (R345, spec/60_exceptions.md
R302, R306). -/
def fetchDecode (s : State) : Decoded :=
  if pcMisaligned s then .reject .pcAlign else decode (s.wordAt s.pc)

/-- The state is terminal: its error slot is set (spec/60_exceptions.md R308). -/
def isFaulted (s : State) : Bool := s.err != .none

/-- The instruction word `w`, its bits from `nbits` upwards 0, stored at pc little-endian
(spec/70_reset_and_hazards.md R342). -/
def placeFetchWord (s : State) (nbits w : Nat) : State :=
  s.memWrite s.pc 4 (BitVec.ofNat 32 (w % 2 ^ nbits))

end Sys2Proof.Machine
end

