-- ==== Sys2Proof/Machine/Step.lean ====
section
/-! DEFINITION. One step (spec/70_reset_and_hazards.md R345): defined on states whose error slot is empty
and refused on every other (spec/60_exceptions.md R308). -/

namespace Sys2Proof.Machine

/-- `step(s) = execute(decode(word_at(s.pc, s)), s)`, preceded by the pc test. A word that selects no
instruction raises the fault of its site (spec/30_encoding.md R133, spec/60_exceptions.md R301). -/
def step (s : State) : Host.Outcome State Fault Refusal :=
  if isFaulted s then .refused .stepOnFaultedState
  else
    match fetchDecode s with
    | .instr i => exec i s
    | .reject site => raise site s

/-- The state with an instruction of the opcode table stored where the next step fetches. -/
def State.withFetchWord (s : State) (nbits w : Nat) : State := placeFetchWord s nbits w

end Sys2Proof.Machine
end

