-- ==== Sys2Proof/Machine/Load.lean ====
section
/-! DEFINITION. The host's side before the first step (spec/70_reset_and_hazards.md R340, R342): what an
initial state is, and the loading of bytes. -/

namespace Sys2Proof.Machine

/-- An initial state INIT: the error slot is empty; everything else is the host's (R340). The memory
condition is the model's canonical form, which every byte map has (log entry 14). -/
def State.isInit (s : State) : Bool := (s.err == .none) && Memory.wf s.mem

/-- Load a byte sequence at `base`: byte `k` at `base + k`, modulo 2^64 (R340). -/
def State.loadBytes (s : State) (base : Word) : List Byte → State
  | [] => s
  | b :: rest => (s.writeByte base b).loadBytes (base + 1#64) rest

/-- The bytes of a program: each word little-endian, in order (R342). -/
def programBytes : List InstrWord → List Byte
  | [] => []
  | w :: rest =>
    w.extractLsb' 0 8 :: w.extractLsb' 8 8 :: w.extractLsb' 16 8 :: w.extractLsb' 24 8 :: programBytes rest

/-- Load instruction words at `base` (R342). -/
def State.loadWords (s : State) (base : Word) (ws : List InstrWord) : State := s.loadBytes base (programBytes ws)

end Sys2Proof.Machine
end

