-- ==== Sys2Proof/Machine/Region.lean ====
section
/-! DEFINITION. The memory region model (spec/20_memory.md R83 to R91): pure Boolean predicates over a
base and a natural-number length. The executor tests none of them (R89). -/

namespace Sys2Proof.Machine

/-- A memory region: the byte range `[base, base + len)`, its length any natural number (R83). -/
structure Region where
  base : Word
  len : Nat
  deriving DecidableEq, Repr

/-- `legal(b, n)`: the region does not wrap the address space (R84). -/
def legal (r : Region) : Bool := decide (r.base.toNat + r.len ≤ 2 ^ 64)

/-- `subset(a, n, b, m)`: every byte of the first, inner, region lies in the second, and both are legal
(R85); an empty region is a subset of every legal region (R87). -/
def subset (r t : Region) : Bool :=
  legal r && legal t &&
    (decide (r.len = 0) ||
      (decide (t.base.toNat ≤ r.base.toNat) && decide (r.base.toNat + r.len ≤ t.base.toNat + t.len)))

/-- `separate(a, n, b, m)`: no byte in common, and both are legal (R86); an empty region is separate from
every legal region (R87). -/
def separate (r t : Region) : Bool :=
  legal r && legal t &&
    (decide (r.len = 0) || decide (t.len = 0) ||
      decide (r.base.toNat + r.len ≤ t.base.toNat) || decide (t.base.toNat + t.len ≤ r.base.toNat))

/-- The pairwise facts `separate(Ri, Rj)`, `i < j`, for regions that must not alias (R91). -/
def pairwiseSeparate : List Region → Bool
  | [] => true
  | r :: rest => rest.all (separate r) && pairwiseSeparate rest

/-- The ordered form of R91: legal regions, each ending at or before the next one's base. -/
def orderedDisjoint : List Region → Bool
  | [] => true
  | [r] => legal r
  | r :: t :: rest => legal r && decide (r.base.toNat + r.len ≤ t.base.toNat) && orderedDisjoint (t :: rest)

end Sys2Proof.Machine
end

