-- ==== Sys2Proof/Machine/Accessors.lean ====
section
/-! DEFINITION. The host's view of a state, field by field: `read(field, state)` and
`write(field, value, state)` of spec/10_state.md R53. -/

namespace Sys2Proof.Machine

/-- The four flags by name (R41, R53). -/
inductive FlagName where
  | n | z | c | v
  deriving DecidableEq, Repr

/-- The fields of R53. `gpr 31` is the SP cell. -/
inductive Field where
  | gpr (i : RegIdx)
  | simd (i : RegIdx)
  | pc
  | flag (f : FlagName)
  | memoryByte (a : Word)
  deriving DecidableEq, Repr

/-- The values a field holds. -/
abbrev FieldValue : Field → Type
  | .gpr _ => Word
  | .simd _ => VWord
  | .pc => Word
  | .flag _ => Bool
  | .memoryByte _ => Byte

/-- One flag of the four. -/
def readFlag (f : Flags) : FlagName → Bool
  | .n => f.n
  | .z => f.z
  | .c => f.c
  | .v => f.v

/-- One flag of the four replaced. -/
def writeFlag (f : Flags) (b : Bool) : FlagName → Flags
  | .n => { f with n := b }
  | .z => { f with z := b }
  | .c => { f with c := b }
  | .v => { f with v := b }

/-- `read(field, state)` (R53). -/
def readField (s : State) : (k : Field) → FieldValue k
  | .gpr i => s.readXSP i
  | .simd i => s.readV i
  | .pc => s.pc
  | .flag f => readFlag s.flags f
  | .memoryByte a => s.readByte a

/-- `write(field, value, state)`: a new state; the old one is as it was (R53). -/
def writeField (s : State) : (k : Field) → FieldValue k → State
  | .gpr i, w => s.writeXSP i w
  | .simd i, w => s.writeV i w
  | .pc, w => s.setPc w
  | .flag f, b => s.setFlags (writeFlag s.flags b f)
  | .memoryByte a, b => s.writeByte a b

end Sys2Proof.Machine
end

