-- ==== Sys2Proof/Machine/Run.lean ====
section
/-! DEFINITION. A run (spec/70_reset_and_hazards.md R346) and the derived Running/Faulted view of
spec/60_exceptions.md R311. HALT and the step bound are the host's, arguments here and no part of the
block (log entry 17). -/

namespace Sys2Proof.Machine

/-- `run(HALT, fuel, s)`: stop at a faulted state, at a state HALT names, or when fuel is used up. -/
def run (halt : State → Bool) : Nat → State → State
  | 0, s => s
  | fuel + 1, s =>
    if isFaulted s then s
    else if halt s then s
    else
      match step s with
      | .next t => run halt fuel t
      | _ => s

/-- The kind of the fault a state records, `none` for a running state: `Running(s)` or
`Faulted(kind, message)` (R311). Comparison of faulted states uses the kind and not the message (R304). -/
def ErrSlot.kind : ErrSlot → Option FaultKind
  | .none => Option.none
  | .illegal _ => some .illegal
  | .unimplemented _ => some .unimplemented

end Sys2Proof.Machine
end

