-- ==== Sys2Proof/Safety.lean ====
section
/-! DEFINITION. The terms statements are written in: the invariant, what a step leaves as it was, the
classes of instructions the rules name, the causes of faults read off the word alone, and the values of
the instruction rules in natural-number and integer arithmetic, without the machine's own operations. -/

namespace Sys2Proof.Machine

/-! ## The invariant and frames -/

/-- The invariant of the model: memory is in its canonical form (log entry 14). -/
def State.Inv (s : State) : Prop := Memory.wf s.mem = true

/-- Every general-purpose register outside the list reads as before. -/
def keepsX (s t : State) (but : List RegIdx) : Prop := ∀ r, r ∉ but → t.readX r = s.readX r

/-- Every SIMD register outside the list reads as before. -/
def keepsV (s t : State) (but : List RegIdx) : Prop := ∀ r, r ∉ but → t.readV r = s.readV r

/-- Every byte of memory reads as before. -/
def keepsMem (s t : State) : Prop := ∀ a, t.readByte a = s.readByte a

/-- Every byte of memory outside the `n` bytes that start at `addr`, modulo 2^64, reads as before. -/
def keepsMemOutside (s t : State) (addr : Word) (n : Nat) : Prop :=
  ∀ a, n ≤ (a - addr).toNat → t.readByte a = s.readByte a

/-- The error slot is as before, or the step faulted and changed nothing else
(spec/60_exceptions.md R303). -/
def keepsErr (s t : State) : Prop := t.err = s.err ∨ t = { s with err := t.err }

/-- What a store leaves as it was besides memory: every general-purpose register outside the list, SP
unless the list names index 31, every SIMD register, all flags. -/
def storeFrame (s t : State) (but : List RegIdx) : Prop :=
  keepsX s t but ∧ (31#5 ∉ but → t.sp = s.sp) ∧ t.v = s.v ∧ t.flags = s.flags ∧ keepsErr s t

/-- `r` is the bit-by-bit combination `f` of `a`, `b` and `c` below the data size of `q`, and zero above
(spec/40_simd_three_same.md R152, R155). -/
def bitwise (q : BitVec 1) (f : Bool → Bool → Bool → Bool) (r a b c : VWord) : Prop :=
  ∀ k, k < 128 → r.getLsbD k = (decide (q = 1#1 ∨ k < 64) && f (a.getLsbD k) (b.getLsbD k) (c.getLsbD k))

/-! ## Classes of instructions -/

/-- The control-flow instructions, R203 to R210 (spec/10_state.md R38). -/
def isControlFlow : Instr → Bool
  | .addVector _ _ _ _ _ => false
  | .andVector _ _ _ _ => false
  | .bicVector _ _ _ _ => false
  | .orrVector _ _ _ _ => false
  | .ornVector _ _ _ _ => false
  | .eorVector _ _ _ _ => false
  | .bslVector _ _ _ _ => false
  | .bitVector _ _ _ _ => false
  | .bifVector _ _ _ _ => false
  | .aese _ _ => false
  | .aesd _ _ => false
  | .aesmc _ _ => false
  | .aesimc _ _ => false
  | .b _ => true
  | .bl _ => true
  | .bCond _ _ => true
  | .cbz _ _ _ => true
  | .cbnz _ _ _ => true
  | .br _ => true
  | .blr _ => true
  | .ret _ => true
  | .nop => false
  | .strbOff _ _ _ => false
  | .ldrbOff _ _ _ => false
  | .strhOff _ _ _ => false
  | .ldrhOff _ _ _ => false
  | .strWOff _ _ _ => false
  | .ldrWOff _ _ _ => false
  | .strXOff _ _ _ => false
  | .ldrXOff _ _ _ => false
  | .strSimdBOff _ _ _ => false
  | .ldrSimdBOff _ _ _ => false
  | .strSimdHOff _ _ _ => false
  | .ldrSimdHOff _ _ _ => false
  | .strSimdSOff _ _ _ => false
  | .ldrSimdSOff _ _ _ => false
  | .strSimdDOff _ _ _ => false
  | .ldrSimdDOff _ _ _ => false
  | .strSimdQOff _ _ _ => false
  | .ldrSimdQOff _ _ _ => false
  | .strbPost _ _ _ => false
  | .ldrbPost _ _ _ => false
  | .strhPost _ _ _ => false
  | .ldrhPost _ _ _ => false
  | .strWPost _ _ _ => false
  | .ldrWPost _ _ _ => false
  | .strXPost _ _ _ => false
  | .ldrXPost _ _ _ => false
  | .strSimdBPost _ _ _ => false
  | .ldrSimdBPost _ _ _ => false
  | .strSimdHPost _ _ _ => false
  | .ldrSimdHPost _ _ _ => false
  | .strSimdSPost _ _ _ => false
  | .ldrSimdSPost _ _ _ => false
  | .strSimdDPost _ _ _ => false
  | .ldrSimdDPost _ _ _ => false
  | .strSimdQPost _ _ _ => false
  | .ldrSimdQPost _ _ _ => false
  | .strbPre _ _ _ => false
  | .ldrbPre _ _ _ => false
  | .strhPre _ _ _ => false
  | .ldrhPre _ _ _ => false
  | .strWPre _ _ _ => false
  | .ldrWPre _ _ _ => false
  | .strXPre _ _ _ => false
  | .ldrXPre _ _ _ => false
  | .strSimdBPre _ _ _ => false
  | .ldrSimdBPre _ _ _ => false
  | .strSimdHPre _ _ _ => false
  | .ldrSimdHPre _ _ _ => false
  | .strSimdSPre _ _ _ => false
  | .ldrSimdSPre _ _ _ => false
  | .strSimdDPre _ _ _ => false
  | .ldrSimdDPre _ _ _ => false
  | .strSimdQPre _ _ _ => false
  | .ldrSimdQPre _ _ _ => false
  | .addImm _ _ _ _ _ => false
  | .addsImm _ _ _ _ _ => false
  | .subImm _ _ _ _ _ => false
  | .subsImm _ _ _ _ _ => false
  | .movn _ _ _ _ => false
  | .movz _ _ _ _ => false
  | .movk _ _ _ _ => false
  | .adr _ _ _ => false
  | .adrp _ _ _ => false
  | .addShifted _ _ _ _ _ _ => false
  | .addsShifted _ _ _ _ _ _ => false
  | .subShifted _ _ _ _ _ _ => false
  | .subsShifted _ _ _ _ _ _ => false
  | .andShifted _ _ _ _ _ _ => false
  | .bicShifted _ _ _ _ _ _ => false
  | .orrShifted _ _ _ _ _ _ => false
  | .ornShifted _ _ _ _ _ _ => false
  | .eorShifted _ _ _ _ _ _ => false
  | .eonShifted _ _ _ _ _ _ => false
  | .andsShifted _ _ _ _ _ _ => false
  | .bicsShifted _ _ _ _ _ _ => false

/-- The instructions that write the flags (spec/10_state.md R42). -/
def writesFlags : Instr → Bool
  | .addVector _ _ _ _ _ => false
  | .andVector _ _ _ _ => false
  | .bicVector _ _ _ _ => false
  | .orrVector _ _ _ _ => false
  | .ornVector _ _ _ _ => false
  | .eorVector _ _ _ _ => false
  | .bslVector _ _ _ _ => false
  | .bitVector _ _ _ _ => false
  | .bifVector _ _ _ _ => false
  | .aese _ _ => false
  | .aesd _ _ => false
  | .aesmc _ _ => false
  | .aesimc _ _ => false
  | .b _ => false
  | .bl _ => false
  | .bCond _ _ => false
  | .cbz _ _ _ => false
  | .cbnz _ _ _ => false
  | .br _ => false
  | .blr _ => false
  | .ret _ => false
  | .nop => false
  | .strbOff _ _ _ => false
  | .ldrbOff _ _ _ => false
  | .strhOff _ _ _ => false
  | .ldrhOff _ _ _ => false
  | .strWOff _ _ _ => false
  | .ldrWOff _ _ _ => false
  | .strXOff _ _ _ => false
  | .ldrXOff _ _ _ => false
  | .strSimdBOff _ _ _ => false
  | .ldrSimdBOff _ _ _ => false
  | .strSimdHOff _ _ _ => false
  | .ldrSimdHOff _ _ _ => false
  | .strSimdSOff _ _ _ => false
  | .ldrSimdSOff _ _ _ => false
  | .strSimdDOff _ _ _ => false
  | .ldrSimdDOff _ _ _ => false
  | .strSimdQOff _ _ _ => false
  | .ldrSimdQOff _ _ _ => false
  | .strbPost _ _ _ => false
  | .ldrbPost _ _ _ => false
  | .strhPost _ _ _ => false
  | .ldrhPost _ _ _ => false
  | .strWPost _ _ _ => false
  | .ldrWPost _ _ _ => false
  | .strXPost _ _ _ => false
  | .ldrXPost _ _ _ => false
  | .strSimdBPost _ _ _ => false
  | .ldrSimdBPost _ _ _ => false
  | .strSimdHPost _ _ _ => false
  | .ldrSimdHPost _ _ _ => false
  | .strSimdSPost _ _ _ => false
  | .ldrSimdSPost _ _ _ => false
  | .strSimdDPost _ _ _ => false
  | .ldrSimdDPost _ _ _ => false
  | .strSimdQPost _ _ _ => false
  | .ldrSimdQPost _ _ _ => false
  | .strbPre _ _ _ => false
  | .ldrbPre _ _ _ => false
  | .strhPre _ _ _ => false
  | .ldrhPre _ _ _ => false
  | .strWPre _ _ _ => false
  | .ldrWPre _ _ _ => false
  | .strXPre _ _ _ => false
  | .ldrXPre _ _ _ => false
  | .strSimdBPre _ _ _ => false
  | .ldrSimdBPre _ _ _ => false
  | .strSimdHPre _ _ _ => false
  | .ldrSimdHPre _ _ _ => false
  | .strSimdSPre _ _ _ => false
  | .ldrSimdSPre _ _ _ => false
  | .strSimdDPre _ _ _ => false
  | .ldrSimdDPre _ _ _ => false
  | .strSimdQPre _ _ _ => false
  | .ldrSimdQPre _ _ _ => false
  | .addImm _ _ _ _ _ => false
  | .addsImm _ _ _ _ _ => true
  | .subImm _ _ _ _ _ => false
  | .subsImm _ _ _ _ _ => true
  | .movn _ _ _ _ => false
  | .movz _ _ _ _ => false
  | .movk _ _ _ _ => false
  | .adr _ _ _ => false
  | .adrp _ _ _ => false
  | .addShifted _ _ _ _ _ _ => false
  | .addsShifted _ _ _ _ _ _ => true
  | .subShifted _ _ _ _ _ _ => false
  | .subsShifted _ _ _ _ _ _ => true
  | .andShifted _ _ _ _ _ _ => false
  | .bicShifted _ _ _ _ _ _ => false
  | .orrShifted _ _ _ _ _ _ => false
  | .ornShifted _ _ _ _ _ _ => false
  | .eorShifted _ _ _ _ _ _ => false
  | .eonShifted _ _ _ _ _ _ => false
  | .andsShifted _ _ _ _ _ _ => true
  | .bicsShifted _ _ _ _ _ _ => true

/-- The instruction that reads the flags (spec/10_state.md R42). -/
def readsFlags : Instr → Bool
  | .addVector _ _ _ _ _ => false
  | .andVector _ _ _ _ => false
  | .bicVector _ _ _ _ => false
  | .orrVector _ _ _ _ => false
  | .ornVector _ _ _ _ => false
  | .eorVector _ _ _ _ => false
  | .bslVector _ _ _ _ => false
  | .bitVector _ _ _ _ => false
  | .bifVector _ _ _ _ => false
  | .aese _ _ => false
  | .aesd _ _ => false
  | .aesmc _ _ => false
  | .aesimc _ _ => false
  | .b _ => false
  | .bl _ => false
  | .bCond _ _ => true
  | .cbz _ _ _ => false
  | .cbnz _ _ _ => false
  | .br _ => false
  | .blr _ => false
  | .ret _ => false
  | .nop => false
  | .strbOff _ _ _ => false
  | .ldrbOff _ _ _ => false
  | .strhOff _ _ _ => false
  | .ldrhOff _ _ _ => false
  | .strWOff _ _ _ => false
  | .ldrWOff _ _ _ => false
  | .strXOff _ _ _ => false
  | .ldrXOff _ _ _ => false
  | .strSimdBOff _ _ _ => false
  | .ldrSimdBOff _ _ _ => false
  | .strSimdHOff _ _ _ => false
  | .ldrSimdHOff _ _ _ => false
  | .strSimdSOff _ _ _ => false
  | .ldrSimdSOff _ _ _ => false
  | .strSimdDOff _ _ _ => false
  | .ldrSimdDOff _ _ _ => false
  | .strSimdQOff _ _ _ => false
  | .ldrSimdQOff _ _ _ => false
  | .strbPost _ _ _ => false
  | .ldrbPost _ _ _ => false
  | .strhPost _ _ _ => false
  | .ldrhPost _ _ _ => false
  | .strWPost _ _ _ => false
  | .ldrWPost _ _ _ => false
  | .strXPost _ _ _ => false
  | .ldrXPost _ _ _ => false
  | .strSimdBPost _ _ _ => false
  | .ldrSimdBPost _ _ _ => false
  | .strSimdHPost _ _ _ => false
  | .ldrSimdHPost _ _ _ => false
  | .strSimdSPost _ _ _ => false
  | .ldrSimdSPost _ _ _ => false
  | .strSimdDPost _ _ _ => false
  | .ldrSimdDPost _ _ _ => false
  | .strSimdQPost _ _ _ => false
  | .ldrSimdQPost _ _ _ => false
  | .strbPre _ _ _ => false
  | .ldrbPre _ _ _ => false
  | .strhPre _ _ _ => false
  | .ldrhPre _ _ _ => false
  | .strWPre _ _ _ => false
  | .ldrWPre _ _ _ => false
  | .strXPre _ _ _ => false
  | .ldrXPre _ _ _ => false
  | .strSimdBPre _ _ _ => false
  | .ldrSimdBPre _ _ _ => false
  | .strSimdHPre _ _ _ => false
  | .ldrSimdHPre _ _ _ => false
  | .strSimdSPre _ _ _ => false
  | .ldrSimdSPre _ _ _ => false
  | .strSimdDPre _ _ _ => false
  | .ldrSimdDPre _ _ _ => false
  | .strSimdQPre _ _ _ => false
  | .ldrSimdQPre _ _ _ => false
  | .addImm _ _ _ _ _ => false
  | .addsImm _ _ _ _ _ => false
  | .subImm _ _ _ _ _ => false
  | .subsImm _ _ _ _ _ => false
  | .movn _ _ _ _ => false
  | .movz _ _ _ _ => false
  | .movk _ _ _ _ => false
  | .adr _ _ _ => false
  | .adrp _ _ _ => false
  | .addShifted _ _ _ _ _ _ => false
  | .addsShifted _ _ _ _ _ _ => false
  | .subShifted _ _ _ _ _ _ => false
  | .subsShifted _ _ _ _ _ _ => false
  | .andShifted _ _ _ _ _ _ => false
  | .bicShifted _ _ _ _ _ _ => false
  | .orrShifted _ _ _ _ _ _ => false
  | .ornShifted _ _ _ _ _ _ => false
  | .eorShifted _ _ _ _ _ _ => false
  | .eonShifted _ _ _ _ _ _ => false
  | .andsShifted _ _ _ _ _ _ => false
  | .bicsShifted _ _ _ _ _ _ => false

/-! ## Causes of a fault (spec/60_exceptions.md R305), on the word itself -/

/-- Causes 9 and 10: a word of the load and store classes. -/
def ldstCause (w : InstrWord) : Option FaultKind :=
  if w.getLsbD 26 then
    if w.getLsbD 23 ∧ field 30 2 w ≠ 0#2 then some .illegal else none
  else if w.getLsbD 23 then some .unimplemented
  else none

/-- Cause 11: a post- or pre-index word with `V = 0`, `Rn = Rt != 31`. -/
def writebackCause (w : InstrWord) : Option FaultKind :=
  if w.getLsbD 26 = false ∧ field 5 5 w = field 0 5 w ∧ field 5 5 w ≠ 31#5 then some .illegal else none

/-- The word-dependent causes, 2 to 11 and 13 to 16, class by class; `none` for a word that faults for no
reason of its own. -/
def wordCause (w : InstrWord) : Option FaultKind :=
  if w &&& 0x9F200400#32 = 0x0E200400#32 then
    if field 11 5 w = 0b10000#5 ∧ w.getLsbD 29 = false then
      if field 22 2 w = 3#2 ∧ w.getLsbD 30 = false then some .illegal else none
    else if field 11 5 w = 0b00011#5 then none
    else some .unimplemented
  else if w &&& 0xFF3E0C00#32 = 0x4E280800#32 then
    if field 22 2 w = 0#2 ∧ field 14 3 w = 1#3 then none else some .unimplemented
  else if w &&& 0xFE000000#32 = 0x54000000#32 then
    if w.getLsbD 24 ∨ w.getLsbD 4 then some .unimplemented else none
  else if w &&& 0xFE000000#32 = 0xD6000000#32 then
    if w &&& 0xFFFFFC1F#32 = 0xD61F0000#32 ∨ w &&& 0xFFFFFC1F#32 = 0xD63F0000#32 ∨
        w &&& 0xFFFFFC1F#32 = 0xD65F0000#32 then none
    else some .unimplemented
  else if w &&& 0xFFFFF01F#32 = 0xD503201F#32 then
    if w = 0xD503201F#32 then none else some .unimplemented
  else if w &&& 0x3B000000#32 = 0x39000000#32 then ldstCause w
  else if w &&& 0x3B200400#32 = 0x38000400#32 then
    match ldstCause w with
    | some k => some k
    | none => writebackCause w
  else if w &&& 0x1F800000#32 = 0x12800000#32 then
    if field 29 2 w = 1#2 then some .illegal
    else if w.getLsbD 31 = false ∧ w.getLsbD 22 then some .illegal
    else none
  else if w &&& 0x1F200000#32 = 0x0B000000#32 then
    if field 22 2 w = 3#2 then some .illegal
    else if w.getLsbD 31 = false ∧ w.getLsbD 15 then some .illegal
    else none
  else if w &&& 0x1F000000#32 = 0x0A000000#32 then
    if w.getLsbD 31 = false ∧ w.getLsbD 15 then some .illegal else none
  else if w &&& 0x7C000000#32 = 0x14000000#32 then none
  else if w &&& 0x7E000000#32 = 0x34000000#32 then none
  else if w &&& 0x1F800000#32 = 0x11000000#32 then none
  else if w &&& 0x1F000000#32 = 0x10000000#32 then none
  else some .unimplemented

/-- The word is a load or a store whose base is SP (cause 12). -/
def spBased (w : InstrWord) : Bool :=
  (w &&& 0x3B000000#32 == 0x39000000#32 || w &&& 0x3B200400#32 == 0x38000400#32) && field 5 5 w == 31#5

/-- The kind of the fault a step from `s` takes, `none` when it takes none: cause 1, then the causes of
the word, then cause 12 (spec/60_exceptions.md R305, R306). -/
def stepCause (s : State) : Option FaultKind :=
  if Config.pcAlignCheck = true ∧ s.pc.toNat % 4 ≠ 0 then some .illegal
  else
    match wordCause (s.memRead s.pc 4) with
    | some k => some k
    | none =>
      if Config.spAlignCheck = true ∧ s.sp.toNat % 16 ≠ 0 ∧ spBased (s.memRead s.pc 4) = true then some .illegal
      else none

/-! ## Values of the instruction rules -/

/-- A word plus an integer, modulo 2^64 (spec/00_scope.md R12, spec/20_memory.md R75). -/
def wordPlus (a : Word) (k : Int) : Word := BitVec.ofInt 64 (a.toNat + k)

/-- The integer an unsigned number below 2^w stands for as a `w`-bit two's-complement number
(spec/00_scope.md R9). -/
def signedNat (w a : Nat) : Int := if a < 2 ^ (w - 1) then a else (a : Int) - 2 ^ w

/-- The flags of the sum of two `w`-bit numbers (spec/10_state.md R41). -/
def sumFlags (w a b : Nat) : Flags where
  n := decide (2 ^ (w - 1) ≤ (a + b) % 2 ^ w)
  z := decide ((a + b) % 2 ^ w = 0)
  c := decide (2 ^ w ≤ a + b)
  v := decide (signedNat w a + signedNat w b ≠ signedNat w ((a + b) % 2 ^ w))

/-- The flags of the difference of two `w`-bit numbers, C meaning that no borrow occurs
(spec/10_state.md R41, spec/44_dp_immediate.md R262). -/
def differenceFlags (w a b : Nat) : Flags where
  n := decide (2 ^ (w - 1) ≤ (a + 2 ^ w - b) % 2 ^ w)
  z := decide (a = b)
  c := decide (b ≤ a)
  v := decide (signedNat w a - signedNat w b ≠ signedNat w ((a + 2 ^ w - b) % 2 ^ w))

/-- The flags of a logical result below 2^w (spec/45_dp_register.md R288). -/
def bitwiseFlags (w r : Nat) : Flags where
  n := decide (2 ^ (w - 1) ≤ r)
  z := decide (r = 0)
  c := false
  v := false

/-- A `w`-bit number shifted or rotated, by type (spec/00_scope.md R14, R15, R22). -/
def shiftedNat (w : Nat) (type : BitVec 2) (k b : Nat) : Nat :=
  match type.toNat with
  | 0 => b * 2 ^ k % 2 ^ w
  | 1 => b / 2 ^ k
  | 2 => (signedNat w b / 2 ^ k % 2 ^ w).toNat
  | _ => (b / 2 ^ k + b * 2 ^ (w - k)) % 2 ^ w

/-- The operand width of a general-purpose instruction in bits (spec/30_encoding.md R131). -/
def widthOf (sf : BitVec 1) : Nat := if sf = 1#1 then 64 else 32

/-- `X[i]` at the operand width, as a number (spec/10_state.md R33, R35). -/
def xNat (sf : BitVec 1) (i : RegIdx) (s : State) : Nat := (s.readX i).toNat % 2 ^ widthOf sf

/-- `XSP[i]` at the operand width, as a number (spec/10_state.md R34, R35). -/
def xspNat (sf : BitVec 1) (i : RegIdx) (s : State) : Nat := (s.readXSP i).toNat % 2 ^ widthOf sf

/-- The immediate of an add or subtract: `imm12`, or that times 4096 (spec/30_encoding.md R132). -/
def immNat (sh : BitVec 1) (imm12 : BitVec 12) : Nat := imm12.toNat * (if sh = 1#1 then 4096 else 1)

/-- The shifted second operand of a shifted-register instruction, as a number
(spec/45_dp_register.md R281). -/
def operandNat (sf : BitVec 1) (shift : BitVec 2) (rm : RegIdx) (imm6 : BitVec 6) (s : State) : Nat :=
  shiftedNat (widthOf sf) shift imm6.toNat (xNat sf rm s)

/-- The complement of a `w`-bit number (spec/00_scope.md R13). -/
def complementNat (w b : Nat) : Nat := 2 ^ w - 1 - b

/-! ## Loads and stores -/

/-- The offset of an addressing form in bytes: scaled and unsigned, or signed and not scaled
(spec/30_encoding.md R132). -/
def formOffset (scale : Nat) : AddrForm → Int
  | .unsignedOffset imm12 => imm12.toNat * 2 ^ scale
  | .postIndex imm9 => imm9.toInt
  | .preIndex imm9 => imm9.toInt

/-- The address an access of that form reaches: the base itself in the post-index form, the base plus
the offset in the others (spec/43_loads_and_stores.md R231). -/
def accessAddr (scale : Nat) (form : AddrForm) (rn : RegIdx) (s : State) : Word :=
  match form with
  | .postIndex _ => s.readXSP rn
  | .unsignedOffset _ => wordPlus (s.readXSP rn) (formOffset scale form)
  | .preIndex _ => wordPlus (s.readXSP rn) (formOffset scale form)

/-- What the base holds afterwards: unchanged in the unsigned-offset form, the base plus the offset in
the others (spec/43_loads_and_stores.md R231). -/
def baseAfter (scale : Nat) (form : AddrForm) (rn : RegIdx) (s : State) : Word :=
  match form with
  | .unsignedOffset _ => s.readXSP rn
  | .postIndex _ => wordPlus (s.readXSP rn) (formOffset scale form)
  | .preIndex _ => wordPlus (s.readXSP rn) (formOffset scale form)

/-- No stack-pointer alignment fault can arise: SP is a multiple of 16 where SP_ALIGN_CHECK is true and SP
is the base (spec/20_memory.md R78). -/
def spAligned (rn : RegIdx) (s : State) : Prop :=
  Config.spAlignCheck = true → rn = 31#5 → s.sp.toNat % 16 = 0

/-- The form and the registers are no write-back conflict (spec/43_loads_and_stores.md R233 (b)). -/
def noConflict (form : AddrForm) (rn rt : RegIdx) : Prop :=
  match form with
  | .unsignedOffset _ => True
  | .postIndex _ => rn ≠ rt ∨ rn = 31#5
  | .preIndex _ => rn ≠ rt ∨ rn = 31#5

/-- The `n` bytes that start at `addr` hold the low bytes of `v`, least significant byte at the lowest
address, and every other byte reads as before (spec/43_loads_and_stores.md R235). -/
def holdsBytes (s t : State) (addr : Word) (n v : Nat) : Prop :=
  (∀ k, k < n → (t.readByte (addr + BitVec.ofNat 64 k)).toNat = v / 256 ^ k % 256) ∧ keepsMemOutside s t addr n

/-- The little-endian number in the `n` bytes that start at `addr` (spec/43_loads_and_stores.md R235). -/
def bytesNat (s : State) (addr : Word) : Nat → Nat
  | 0 => 0
  | n + 1 => (s.readByte addr).toNat + 256 * bytesNat s (addr + 1#64) n

/-- A general-purpose store completes: its bytes are stored, its base is as the form says, pc is 4
further, and nothing else changes. -/
def storesGpr (scale : Nat) (form : AddrForm) (rn rt : RegIdx) (i : Instr) : Prop :=
  ∀ s, s.Inv → spAligned rn s → noConflict form rn rt →
    ∃ t, Sys2Proof.Machine.exec i s = .next t ∧
      holdsBytes s t (accessAddr scale form rn s) (2 ^ scale) (s.readX rt).toNat ∧
      t.readXSP rn = baseAfter scale form rn s ∧ keepsX s t [rn] ∧ (rn ≠ 31#5 → t.sp = s.sp) ∧
      t.pc = wordPlus s.pc 4 ∧ t.v = s.v ∧ t.flags = s.flags ∧ t.err = s.err

/-- A SIMD store completes. -/
def storesSimd (scale : Nat) (form : AddrForm) (rn rt : RegIdx) (i : Instr) : Prop :=
  ∀ s, s.Inv → spAligned rn s →
    ∃ t, Sys2Proof.Machine.exec i s = .next t ∧
      holdsBytes s t (accessAddr scale form rn s) (2 ^ scale) (s.readV rt).toNat ∧
      t.readXSP rn = baseAfter scale form rn s ∧ keepsX s t [rn] ∧ (rn ≠ 31#5 → t.sp = s.sp) ∧
      t.pc = wordPlus s.pc 4 ∧ t.v = s.v ∧ t.flags = s.flags ∧ t.err = s.err

/-- A general-purpose load completes: `Rt` holds the bytes, zero-extended, unless it is the zero
register; its base is as the form says unless `Rt` is that register; pc is 4 further; nothing else
changes. -/
def loadsGpr (scale : Nat) (form : AddrForm) (rn rt : RegIdx) (i : Instr) : Prop :=
  ∀ s, spAligned rn s → noConflict form rn rt →
    ∃ t, Sys2Proof.Machine.exec i s = .next t ∧
      (rt ≠ 31#5 → (t.readX rt).toNat = bytesNat s (accessAddr scale form rn s) (2 ^ scale)) ∧
      (rn ≠ rt ∨ rn = 31#5 → t.readXSP rn = baseAfter scale form rn s) ∧
      keepsX s t [rn, rt] ∧ (rn ≠ 31#5 → t.sp = s.sp) ∧
      t.pc = wordPlus s.pc 4 ∧ t.v = s.v ∧ t.flags = s.flags ∧ t.mem = s.mem ∧ t.err = s.err

/-- A SIMD load completes: all 128 bits of `Rt` are written, the loaded bytes zero-extended. -/
def loadsSimd (scale : Nat) (form : AddrForm) (rn rt : RegIdx) (i : Instr) : Prop :=
  ∀ s, spAligned rn s →
    ∃ t, Sys2Proof.Machine.exec i s = .next t ∧
      (t.readV rt).toNat = bytesNat s (accessAddr scale form rn s) (2 ^ scale) ∧
      t.readXSP rn = baseAfter scale form rn s ∧ keepsX s t [rn] ∧ keepsV s t [rt] ∧ (rn ≠ 31#5 → t.sp = s.sp) ∧
      t.pc = wordPlus s.pc 4 ∧ t.flags = s.flags ∧ t.mem = s.mem ∧ t.err = s.err

end Sys2Proof.Machine
end

