-- ==== Sys2Proof/Certificates/Slice0/Obligations.lean ====
section
/-! DEFINITION. The statements for the provers. Each is a proposition about the model, formalising or
following from the rules of spec/ its docstring names. -/

open Sys2Proof Sys2Proof.Machine

/-- O1. Decoding the encoding of any instruction gives the instruction back (spec/30_encoding.md R112,
spec/30_encoding.md R113, spec/30_encoding.md R116, spec/30_encoding.md R141). -/
def Obligations.DecodeOfEncodeIsInstruction : Prop :=
  ∀ i : Instr, decode (encode i) = .instr i

/-- O2. Every word that decodes to an instruction is the encoding of that instruction (spec/30_encoding.md R111,
spec/30_encoding.md R112, spec/30_encoding.md R113). -/
def Obligations.EncodeOfDecodeIsWord : Prop :=
  ∀ (w : InstrWord) (i : Instr), decode w = .instr i → encode i = w

/-- O3. The fifteen class patterns are pairwise disjoint, so that their order does not matter
(spec/30_encoding.md R114). -/
def Obligations.ClassPatternsDisjoint : Prop :=
  classTable.length = 15 ∧
  classTable.Pairwise (fun r t =>
    ∃ k < 32, r.mask.getLsbD k = true ∧ t.mask.getLsbD k = true ∧ r.pattern.getLsbD k ≠ t.pattern.getLsbD k) ∧
  (∀ w, classTable.Pairwise (fun r t => ¬ (r.fits w = true ∧ t.fits w = true))) ∧
  (∀ l, l.Perm classTable → ∀ w, findClass l w = findClass classTable w) ∧
  (∀ w, decodeClass w = .unsupported w ↔ ∀ r ∈ classTable, r.fits w = false)

/-- O4. The opcode table and the decoder agree on every word (spec/30_encoding.md R141). -/
def Obligations.OpcodeTableAgreesWithDecoder : Prop :=
  (∀ (w : InstrWord) (i : Instr), decode w = .instr i → i.opcodeRow.fits w = true) ∧
  (∀ (w : InstrWord) (i : Instr), i.opcodeRow.fits w = true →
    ∃ j, decode w = .instr j ∧ j.opcodeRow = i.opcodeRow)

/-- O5. A word of each family, written out from its format, decodes to its instruction (spec/30_encoding.md
R115, spec/30_encoding.md R116, spec/30_encoding.md R117, spec/30_encoding.md R119, spec/30_encoding.md
R121, spec/30_encoding.md R123, spec/30_encoding.md R124, spec/30_encoding.md R126, spec/30_encoding.md
R130). -/
def Obligations.DecodesWordsOfTheSpec : Prop :=
  decode 0b01001110101000101000010000100000#32 = .instr (.addVector 1#1 2#2 2#5 1#5 0#5) ∧
  decode 0b01001110001010000100100000100000#32 = .instr (.aese 1#5 0#5) ∧
  decode 0b01010100111111111111111110000001#32 = .instr (.bCond 0x7FFFC#19 1#4) ∧
  decode 0b11010110010111110000001111000000#32 = .instr (.ret 30#5) ∧
  decode 0b11111001010000000000010000100010#32 = .instr (.ldrXOff 1#12 1#5 2#5) ∧
  decode 0b00111100100000010000010000100010#32 = .instr (.strSimdQPost 16#9 1#5 2#5) ∧
  decode 0b10010001000000000100000000111111#32 = .instr (.addImm 1#1 0#1 0x10#12 1#5 31#5) ∧
  decode 0b11101010000000110000000000100000#32 = .instr (.andsShifted 1#1 0#2 3#5 0#6 1#5 0#5) ∧
  decode 0b11010100000000000000000000000001#32 = .reject .unsupportedWord

/-- O6. LSL, LSR and ASR have the values of R14, below the width and beyond it (spec/00_scope.md R14). -/
def Obligations.ShiftsHaveTheirValues : Prop :=
  ∀ (n : Nat) (a : BitVec n) (k : Nat),
  (lsl a k).toNat = (if k < n then a.toNat * 2 ^ k % 2 ^ n else 0) ∧
  (lsr a k).toNat = (if k < n then a.toNat / 2 ^ k else 0) ∧
  asr a k = (if k < n then BitVec.ofInt n (a.toInt / 2 ^ k) else if a.msb then BitVec.allOnes n else 0#n)

/-- O7. ROR moves bit i + k, modulo the width, to bit i (spec/00_scope.md R15). -/
def Obligations.RotateMovesEveryBit : Prop :=
  ∀ (n : Nat) (a : BitVec n) (k i : Nat), i < n → (ror a k).getLsbD i = a.getLsbD ((i + k) % n)

/-- O8. AddWithCarry gives the sum and its four flags, and a subtraction carries when it does not borrow
(spec/00_scope.md R21). -/
def Obligations.AddWithCarryFollowsTheIntegers : Prop :=
  ∀ (n : Nat), 0 < n → ∀ (x y : BitVec n) (cin : Bool),
  (addWithCarry x y cin).1.toNat = (x.toNat + y.toNat + cin.toNat) % 2 ^ n ∧
  ((addWithCarry x y cin).2.n = (addWithCarry x y cin).1.getLsbD (n - 1)) ∧
  ((addWithCarry x y cin).2.z = true ↔ (addWithCarry x y cin).1 = 0#n) ∧
  ((addWithCarry x y cin).2.c = false ↔ (addWithCarry x y cin).1.toNat = x.toNat + y.toNat + cin.toNat) ∧
  ((addWithCarry x y cin).2.v = false ↔ (addWithCarry x y cin).1.toInt = x.toInt + y.toInt + cin.toNat) ∧
  (addWithCarry x (~~~y) true).1 = x - y ∧
  ((addWithCarry x (~~~y) true).2.c = true ↔ y.toNat ≤ x.toNat)

/-- O9. ConditionHolds is the table of the sixteen conditions (spec/10_state.md R43). -/
def Obligations.ConditionTable : Prop :=
  ∀ f : Flags,
  (conditionHolds f 0b0000#4 = f.z) ∧ (conditionHolds f 0b0001#4 = !f.z) ∧
  (conditionHolds f 0b0010#4 = f.c) ∧ (conditionHolds f 0b0011#4 = !f.c) ∧
  (conditionHolds f 0b0100#4 = f.n) ∧ (conditionHolds f 0b0101#4 = !f.n) ∧
  (conditionHolds f 0b0110#4 = f.v) ∧ (conditionHolds f 0b0111#4 = !f.v) ∧
  (conditionHolds f 0b1000#4 = (f.c && !f.z)) ∧ (conditionHolds f 0b1001#4 = (!f.c || f.z)) ∧
  (conditionHolds f 0b1010#4 = (f.n == f.v)) ∧ (conditionHolds f 0b1011#4 = (f.n != f.v)) ∧
  (conditionHolds f 0b1100#4 = (!f.z && (f.n == f.v))) ∧ (conditionHolds f 0b1101#4 = (f.z || (f.n != f.v))) ∧
  (conditionHolds f 0b1110#4 = true) ∧ (conditionHolds f 0b1111#4 = true)

/-- O10. The zero-register view and the stack-pointer view of a register index (spec/10_state.md R33,
spec/10_state.md R34). -/
def Obligations.RegisterViewsByIndex : Prop :=
  ∀ s : State, s.readX 31#5 = 0#64 ∧ (∀ v, s.writeX 31#5 v = s) ∧
  (∀ (i : RegIdx) (h : i.toNat < 31) (v : Word),
    s.readX i = s.x[i.toNat] ∧ s.writeX i v = { s with x := s.x.set i.toNat v } ∧
    s.readXSP i = s.readX i ∧ s.writeXSP i v = s.writeX i v) ∧
  s.readXSP 31#5 = s.sp ∧ (∀ v, s.writeXSP 31#5 v = { s with sp := v })

/-- O11. A narrow register write clears the bits above it, in every view (spec/10_state.md R35, spec/10_state.md
R44, spec/10_state.md R45). -/
def Obligations.NarrowViewsClearTheRest : Prop :=
  ∀ (s : State) (i : RegIdx),
  (∀ v : BitVec 32,
    s.gpr 32 i = (s.readX i).extractLsb' 0 32 ∧ s.gprSp 32 i = (s.readXSP i).extractLsb' 0 32 ∧
    s.setGpr i v = s.writeX i (0#32 ++ v) ∧ s.setGprSp i v = s.writeXSP i (0#32 ++ v) ∧
    (s.setGprSp 31#5 v).sp = 0#32 ++ v) ∧
  s.readV i = s.v[i.toNat]'i.isLt ∧ (∀ v : VWord, s.writeV i v = { s with v := s.v.set i.toNat v i.isLt }) ∧
  (∀ w ∈ [8, 16, 32, 64, 128], ∀ (fits : w ≤ 128) (v : BitVec w),
    (s.vpart w i fits).toNat = (s.readV i).toNat % 2 ^ w ∧
    ∃ u : VWord, u.toNat = v.toNat ∧ s.setVpart i v fits = s.writeV i u)

/-- O12. Reading a field just written returns the value written; every other field reads as before
(spec/10_state.md R53). -/
def Obligations.AccessorLaws : Prop :=
  ∀ s : State, s.Inv →
  (∀ (k : Field) (v : FieldValue k), readField (writeField s k v) k = v) ∧
  (∀ (k m : Field) (v : FieldValue k), m ≠ k → readField (writeField s k v) m = readField s m) ∧
  (∀ (i : RegIdx) (h : i.toNat < 31), readField s (.gpr i) = s.x[i.toNat]) ∧ readField s (.gpr 31#5) = s.sp

/-- O13. MemRead gives the bytes in little-endian order, and a fetch is MemRead of four bytes (spec/20_memory.md
R71, spec/20_memory.md R74). -/
def Obligations.MemReadIsLittleEndian : Prop :=
  ∀ s : State,
  (∀ (addr : Word) (n i : Nat), i < n →
    (s.memRead addr n).extractLsb' (8 * i) 8 = s.readByte (addr + BitVec.ofNat 64 i)) ∧
  s.wordAt s.pc = s.memRead s.pc 4 ∧
  s.wordAt s.pc =
    wordOfBytes (s.readByte s.pc) (s.readByte (s.pc + 1#64)) (s.readByte (s.pc + 2#64)) (s.readByte (s.pc + 3#64)) ∧
  wordOfBytes 0x20#8 0x48#8 0x28#8 0x4E#8 = 0x4E284820#32

/-- O14. MemWrite sets its n bytes little-endian and leaves everything else (spec/20_memory.md R72). -/
def Obligations.MemWriteSetsItsBytesOnly : Prop :=
  ∀ (s : State) (addr : Word) (n : Nat) (v : BitVec (8 * n)), s.Inv → n ≤ 2 ^ 64 →
  (∀ i, i < n → (s.memWrite addr n v).readByte (addr + BitVec.ofNat 64 i) = v.extractLsb' (8 * i) 8) ∧
  keepsMemOutside s (s.memWrite addr n v) addr n ∧
  s.memWrite addr n v = { s with mem := (s.memWrite addr n v).mem }

/-- O15. The read-after-write laws of memory (spec/20_memory.md R73). -/
def Obligations.ReadAfterWriteLaws : Prop :=
  ∀ (s : State) (addr : Word) (n : Nat) (v : BitVec (8 * n)), s.Inv → n ∈ [1, 2, 4, 8, 16] →
  (s.memWrite addr n v).memRead addr n = v ∧
  (∀ (addr' : Word) (n' : Nat),
    (∀ i j, i < n → j < n' → addr' + BitVec.ofNat 64 j ≠ addr + BitVec.ofNat 64 i) →
    (s.memWrite addr n v).memRead addr' n' = s.memRead addr' n') ∧
  s.memWrite addr n (s.memRead addr n) = s

/-- O16. The laws of separate and subset, zero-length regions included (spec/20_memory.md R87, spec/20_memory.md
R88). -/
def Obligations.RegionPredicateLaws : Prop :=
  ∀ a b c : Region,
  (a.len = 0 → legal a = true ∧ (legal b = true → separate a b = true ∧ subset a b = true)) ∧
  (separate a b = separate b a) ∧ (legal a = true → subset a a = true) ∧
  (subset a b = true → subset b c = true → subset a c = true) ∧
  (subset a b = true → separate b c = true → separate a c = true) ∧
  (subset a b = true → legal a = true ∧ legal b = true) ∧
  (separate a b = true → legal a = true ∧ legal b = true)

/-- O17. What separate and subset guarantee of reads and writes (spec/20_memory.md R90). -/
def Obligations.RegionsBoundAccesses : Prop :=
  ∀ (s : State) (a b : Word) (n m : Nat), s.Inv → n ≤ 2 ^ 64 → m ≤ 2 ^ 64 →
  (separate ⟨a, n⟩ ⟨b, m⟩ = true → ∀ v : BitVec (8 * m), (s.memWrite b m v).memRead a n = s.memRead a n) ∧
  (subset ⟨a, n⟩ ⟨b, m⟩ = true → 1 ≤ n → ∀ v : BitVec (8 * m),
    (s.memWrite b m v).memRead a n = v.extractLsb' (8 * (a.toNat - b.toNat)) (8 * n)) ∧
  (separate ⟨a, n⟩ ⟨b, m⟩ = true → ∀ (v : BitVec (8 * n)) (w : BitVec (8 * m)),
    (s.memWrite a n v).memWrite b m w = (s.memWrite b m w).memWrite a n v)

/-- O18. An ordered list of legal regions gives every pairwise separateness fact (spec/20_memory.md R91). -/
def Obligations.OrderedRegionsArePairwiseSeparate : Prop :=
  ∀ rs : List Region, orderedDisjoint rs = true → pairwiseSeparate rs = true

/-- O19. A program loaded by the host is what the fetch reads (spec/70_reset_and_hazards.md R340,
spec/70_reset_and_hazards.md R342, spec/20_memory.md R74). -/
def Obligations.LoadedWordsAreFetched : Prop :=
  ∀ (s : State) (base : Word) (ws : List InstrWord), s.Inv → 4 * ws.length ≤ 2 ^ 64 →
  ∀ (i : Nat) (h : i < ws.length), (s.loadWords base ws).wordAt (base + BitVec.ofNat 64 (4 * i)) = ws[i]

/-- O20. The state after reset has an empty error slot and memory in canonical form (spec/10_state.md R55,
spec/70_reset_and_hazards.md R340). -/
def Obligations.ResetRunsFromAnEmptyErrorSlot : Prop :=
  State.reset.Inv ∧ State.reset.isInit = true ∧ State.reset.err = .none

/-- O21. Every step keeps memory in canonical form (the model's representation, log entry 14) (spec/10_state.md
R46, spec/20_memory.md R72). The canonical form is the model's choice, log entry 14. -/
def Obligations.StepKeepsMemoryCanonical : Prop :=
  ∀ s t : State, s.Inv → step s = .next t → t.Inv

/-- O22. A faulting step changes the error slot and nothing else (spec/60_exceptions.md R303). -/
def Obligations.FaultingStepChangesOnlyTheErrorSlot : Prop :=
  ∀ s t : State, step s = .next t → t.err ≠ .none → s.err = .none ∧ t = { s with err := t.err }

/-- O23. Step answers a next state from every state with an empty error slot, and exec from every state
(spec/60_exceptions.md R312, spec/70_reset_and_hazards.md R345). -/
def Obligations.StepCompletesOnEveryRunningState : Prop :=
  (∀ s : State, s.err = .none → ∃ t, step s = .next t) ∧ (∀ (i : Instr) (s : State), ∃ t, exec i s = .next t)

/-- O24. A faulted state is terminal: step gives no next state (the refusal is the model's choice, log entry 12)
(spec/60_exceptions.md R308). The spec leaves `step` undefined there; the named refusal is the model's
choice, log entry 12. -/
def Obligations.NoStepFromFaultedState : Prop :=
  ∀ s : State, s.err ≠ .none →
  step s = .refused .stepOnFaultedState ∧ ∀ (halt : State → Bool) (fuel : Nat), run halt fuel s = s

/-- O25. Outside control flow every step that does not fault advances pc by 4 (spec/10_state.md R38). -/
def Obligations.PcAdvancesByFour : Prop :=
  ∀ s t : State, step s = .next t →
  (t.err = .none → (∀ i, fetchDecode s = .instr i → isControlFlow i = false) → t.pc = wordPlus s.pc 4) ∧
  (t.err ≠ .none → t.pc = s.pc)

/-- O26. Only the six flag-setting instructions change a flag (spec/10_state.md R42). -/
def Obligations.OnlyFlagSettersWriteFlags : Prop :=
  ∀ s t : State, step s = .next t →
  ((∀ i, fetchDecode s = .instr i → writesFlags i = false) ∨ t.err ≠ .none) → t.flags = s.flags

/-- O27. No instruction but B.cond depends on the flags (spec/10_state.md R42). -/
def Obligations.OnlyConditionalBranchReadsFlags : Prop :=
  ∀ (i : Instr) (s t : State) (f : Flags), readsFlags i = false → exec i s = .next t →
  ∃ u, exec i { s with flags := f } = .next u ∧ u = { t with flags := u.flags } ∧
    (writesFlags i = true → i.wellFormed = true → u = t)

/-- O28. A step runs the instruction that the four bytes at pc decode to (spec/70_reset_and_hazards.md R345,
spec/20_memory.md R74). -/
def Obligations.StepRunsTheDecodedInstruction : Prop :=
  ∀ (s : State) (i : Instr), s.err = .none → s.pc.toNat % 4 = 0 →
  decodeBytes (s.readByte s.pc) (s.readByte (s.pc + 1#64)) (s.readByte (s.pc + 2#64)) (s.readByte (s.pc + 3#64)) =
    .instr i →
  step s = exec i s

/-- O29. A word stored at pc is what the next step runs (spec/20_memory.md R95, spec/20_memory.md R74). -/
def Obligations.StoredWordIsTheNextInstruction : Prop :=
  ∀ (s : State) (w : InstrWord) (i : Instr), s.Inv → s.err = .none → s.pc.toNat % 4 = 0 → decode w = .instr i →
  s.withFetchWord 32 w.toNat = s.memWrite s.pc 4 w ∧
  step (s.memWrite s.pc 4 w) = exec i (s.memWrite s.pc 4 w)

/-- O30. A word of no class faults Unimplemented and changes nothing else (spec/60_exceptions.md R301). -/
def Obligations.UnsupportedWordFaultsUnimplemented : Prop :=
  ∀ s : State, s.err = .none → s.pc.toNat % 4 = 0 → (∀ r ∈ classTable, r.fits (s.memRead s.pc 4) = false) →
  decodeClass (s.memRead s.pc 4) = .unsupported (s.memRead s.pc 4) ∧
  step s = .next { s with err := .unimplemented (Config.msg .unsupportedWord) }

/-- O31. A step at a misaligned pc faults Illegal before the fetch, exactly when PC_ALIGN_CHECK is true
(spec/60_exceptions.md R302). -/
def Obligations.MisalignedPcFaultsBeforeTheFetch : Prop :=
  ∀ s : State, s.err = .none → s.pc.toNat % 4 ≠ 0 →
  step s =
    if Config.pcAlignCheck = true then .next { s with err := .illegal (Config.msg .pcAlign) }
    else
      match decode (s.memRead s.pc 4) with
      | .instr i => exec i s
      | .reject site => .next (s.faulted site)

/-- O32. A step faults exactly on the sixteen causes, with the kind the table gives (spec/60_exceptions.md
R305). -/
def Obligations.FaultCausesAreComplete : Prop :=
  ∀ s t : State, step s = .next t → t.err.kind = stepCause s

/-- O33. ADD (vector) adds lane by lane and clears the bits above its width (spec/40_simd_three_same.md R150,
spec/40_simd_three_same.md R151, spec/40_simd_three_same.md R156). -/
def Obligations.VectorAddPerLane : Prop :=
  ∀ (q : BitVec 1) (size : BitVec 2) (rm rn rd : RegIdx) (s : State), ¬ (size = 3#2 ∧ q = 0#1) →
  ∃ r : VWord, exec (.addVector q size rm rn rd) s = .next { s.writeV rd r with pc := wordPlus s.pc 4 } ∧
    (∀ e, e < (if q = 1#1 then 128 else 64) / (8 * 2 ^ size.toNat) →
      (elem (8 * 2 ^ size.toNat) r e).toNat =
        ((elem (8 * 2 ^ size.toNat) (s.readV rn) e).toNat + (elem (8 * 2 ^ size.toNat) (s.readV rm) e).toNat) %
          2 ^ (8 * 2 ^ size.toNat)) ∧
    (q = 0#1 → r.toNat < 2 ^ 64)

/-- O34. The eight vector logical instructions follow their truth table at every bit (spec/40_simd_three_same.md
R152, spec/40_simd_three_same.md R166, spec/40_simd_three_same.md R157, spec/40_simd_three_same.md R158,
spec/40_simd_three_same.md R159, spec/40_simd_three_same.md R160, spec/40_simd_three_same.md R161,
spec/40_simd_three_same.md R162, spec/40_simd_three_same.md R163, spec/40_simd_three_same.md R164). -/
def Obligations.VectorLogicalTruthTables : Prop :=
  ∀ (q : BitVec 1) (rm rn rd : RegIdx) (s : State),
  (∃ r : VWord, exec (.andVector q rm rn rd) s = .next { s.writeV rd r with pc := wordPlus s.pc 4 } ∧
    bitwise q (fun n m _ => n && m) r (s.readV rn) (s.readV rm) (s.readV rd)) ∧
  (∃ r : VWord, exec (.bicVector q rm rn rd) s = .next { s.writeV rd r with pc := wordPlus s.pc 4 } ∧
    bitwise q (fun n m _ => n && !m) r (s.readV rn) (s.readV rm) (s.readV rd)) ∧
  (∃ r : VWord, exec (.orrVector q rm rn rd) s = .next { s.writeV rd r with pc := wordPlus s.pc 4 } ∧
    bitwise q (fun n m _ => n || m) r (s.readV rn) (s.readV rm) (s.readV rd)) ∧
  (∃ r : VWord, exec (.ornVector q rm rn rd) s = .next { s.writeV rd r with pc := wordPlus s.pc 4 } ∧
    bitwise q (fun n m _ => n || !m) r (s.readV rn) (s.readV rm) (s.readV rd)) ∧
  (∃ r : VWord, exec (.eorVector q rm rn rd) s = .next { s.writeV rd r with pc := wordPlus s.pc 4 } ∧
    bitwise q (fun n m _ => n != m) r (s.readV rn) (s.readV rm) (s.readV rd)) ∧
  (∃ r : VWord, exec (.bslVector q rm rn rd) s = .next { s.writeV rd r with pc := wordPlus s.pc 4 } ∧
    bitwise q (fun n m d => if d then n else m) r (s.readV rn) (s.readV rm) (s.readV rd)) ∧
  (∃ r : VWord, exec (.bitVector q rm rn rd) s = .next { s.writeV rd r with pc := wordPlus s.pc 4 } ∧
    bitwise q (fun n m d => if m then n else d) r (s.readV rn) (s.readV rm) (s.readV rd)) ∧
  (∃ r : VWord, exec (.bifVector q rm rn rd) s = .next { s.writeV rd r with pc := wordPlus s.pc 4 } ∧
    bitwise q (fun n m d => if m then d else n) r (s.readV rn) (s.readV rm) (s.readV rd))

/-- O35. AESE, AESD, AESMC and AESIMC byte by byte (spec/41_crypto_aes.md R180, spec/41_crypto_aes.md R181,
spec/41_crypto_aes.md R184, spec/41_crypto_aes.md R185, spec/41_crypto_aes.md R186, spec/41_crypto_aes.md
R187, spec/41_crypto_aes.md R188, spec/41_crypto_aes.md R189). -/
def Obligations.AesInstructionBytes : Prop :=
  ∀ (rn rd : RegIdx) (s : State),
  (∃ v : VWord, exec (.aese rn rd) s = .next { s.writeV rd v with pc := wordPlus s.pc 4 } ∧
    ∀ r c, r < 4 → c < 4 →
      byteAt v (r + 4 * c) =
        sbox (byteAt (s.readV rd) (r + 4 * ((c + r) % 4)) ^^^ byteAt (s.readV rn) (r + 4 * ((c + r) % 4)))) ∧
  (∃ v : VWord, exec (.aesd rn rd) s = .next { s.writeV rd v with pc := wordPlus s.pc 4 } ∧
    ∀ r c, r < 4 → c < 4 →
      byteAt v (r + 4 * ((c + r) % 4)) = invSbox (byteAt (s.readV rd) (r + 4 * c) ^^^ byteAt (s.readV rn) (r + 4 * c))) ∧
  (∃ v : VWord, exec (.aesmc rn rd) s = .next { s.writeV rd v with pc := wordPlus s.pc 4 } ∧
    ∀ r c, r < 4 → c < 4 → ∀ a : Nat → Byte, (∀ k, a k = byteAt (s.readV rn) (4 * c + (r + k) % 4)) →
      byteAt v (4 * c + r) = xtime (a 0) ^^^ (xtime (a 1) ^^^ a 1) ^^^ a 2 ^^^ a 3) ∧
  (∃ v : VWord, exec (.aesimc rn rd) s = .next { s.writeV rd v with pc := wordPlus s.pc 4 } ∧
    ∀ r c, r < 4 → c < 4 → ∀ a : Nat → Byte, (∀ k, a k = byteAt (s.readV rn) (4 * c + (r + k) % 4)) →
      byteAt v (4 * c + r) =
        (xtime (xtime (xtime (a 0))) ^^^ xtime (xtime (a 0)) ^^^ xtime (a 0)) ^^^
        (xtime (xtime (xtime (a 1))) ^^^ xtime (a 1) ^^^ a 1) ^^^
        (xtime (xtime (xtime (a 2))) ^^^ xtime (xtime (a 2)) ^^^ a 2) ^^^
        (xtime (xtime (xtime (a 3))) ^^^ a 3))

/-- O36. The two S-box tables are what their rules say (spec/41_crypto_aes.md R182, spec/41_crypto_aes.md R183). -/
def Obligations.SboxIsTheAffineTransformOfTheInverse : Prop :=
  (∀ b : Byte, ∃ x : Byte, (b = 0#8 → x = 0#8) ∧ (b ≠ 0#8 → gmul b x = 1#8) ∧
    ∀ i, i < 8 → (sbox b).getLsbD i =
      (x.getLsbD i ^^ x.getLsbD ((i + 4) % 8) ^^ x.getLsbD ((i + 5) % 8) ^^ x.getLsbD ((i + 6) % 8) ^^
        x.getLsbD ((i + 7) % 8) ^^ (0x63#8).getLsbD i)) ∧
  (∀ b : Byte, invSbox (sbox b) = b ∧ sbox (invSbox b) = b) ∧
  (∀ (v : VWord) (i : Nat), i < 16 →
    byteAt (subBytes v) i = sbox (byteAt v i) ∧ byteAt (invSubBytes v) i = invSbox (byteAt v i))

/-- O37. The AES transformations, their inverses, and their algebra (spec/41_crypto_aes.md R188,
spec/41_crypto_aes.md R189). -/
def Obligations.AesTransformsAreInverse : Prop :=
  ∀ u v : VWord,
  (∀ r c, r < 4 → c < 4 → byteAt (shiftRows v) (r + 4 * c) = byteAt v (r + 4 * ((c + r) % 4)) ∧
    byteAt (invShiftRows v) (r + 4 * c) = byteAt v (r + 4 * ((c + 4 - r) % 4))) ∧
  invShiftRows (shiftRows v) = v ∧ shiftRows (invShiftRows v) = v ∧
  subBytes (shiftRows v) = shiftRows (subBytes v) ∧ subBytes (invShiftRows v) = invShiftRows (subBytes v) ∧
  invSubBytes (shiftRows v) = shiftRows (invSubBytes v) ∧
  invSubBytes (invShiftRows v) = invShiftRows (invSubBytes v) ∧
  (∀ r c, r < 4 → c < 4 → ∀ a : Nat → Byte, (∀ k, a k = byteAt v (4 * c + k % 4)) →
    byteAt (mixColumns v) (4 * c + r) = gmul 2#8 (a r) ^^^ gmul 3#8 (a (r + 1)) ^^^ a (r + 2) ^^^ a (r + 3) ∧
    byteAt (invMixColumns v) (4 * c + r) =
      gmul 0xE#8 (a r) ^^^ gmul 0xB#8 (a (r + 1)) ^^^ gmul 0xD#8 (a (r + 2)) ^^^ gmul 9#8 (a (r + 3))) ∧
  invMixColumns (mixColumns v) = v ∧ mixColumns (invMixColumns v) = v ∧
  mixColumns (u ^^^ v) = mixColumns u ^^^ mixColumns v ∧
  invMixColumns (u ^^^ v) = invMixColumns u ^^^ invMixColumns v

/-- O38. B, BL, BR, BLR, RET and NOP: the new pc and the link (spec/42_branches_and_system.md R202,
spec/42_branches_and_system.md R203, spec/42_branches_and_system.md R204, spec/42_branches_and_system.md
R208, spec/42_branches_and_system.md R209, spec/42_branches_and_system.md R210,
spec/42_branches_and_system.md R211). -/
def Obligations.BranchesSetPc : Prop :=
  ∀ s : State,
  (∀ imm26, exec (.b imm26) s = .next { s with pc := wordPlus s.pc (4 * imm26.toInt) }) ∧
  (∀ imm26, exec (.bl imm26) s =
    .next { s with x := s.x.set 30 (wordPlus s.pc 4), pc := wordPlus s.pc (4 * imm26.toInt) }) ∧
  (∀ rn, exec (.br rn) s = .next { s with pc := s.readX rn }) ∧
  (∀ rn, exec (.blr rn) s = .next { s with x := s.x.set 30 (wordPlus s.pc 4), pc := s.readX rn }) ∧
  (∀ rn, exec (.ret rn) s = .next { s with pc := s.readX rn }) ∧
  exec .nop s = .next { s with pc := wordPlus s.pc 4 }

/-- O39. B.cond, CBZ and CBNZ: taken or not (spec/42_branches_and_system.md R200, spec/42_branches_and_system.md
R205, spec/42_branches_and_system.md R206, spec/42_branches_and_system.md R207). -/
def Obligations.ConditionalBranchesChoosePc : Prop :=
  ∀ s : State,
  (∀ imm19 cond, exec (.bCond imm19 cond) s =
    .next { s with pc := wordPlus s.pc (if conditionHolds s.flags cond then 4 * imm19.toInt else 4) }) ∧
  (∀ sf imm19 rt, exec (.cbz sf imm19 rt) s =
    .next { s with pc := wordPlus s.pc (if xNat sf rt s = 0 then 4 * imm19.toInt else 4) }) ∧
  (∀ sf imm19 rt, exec (.cbnz sf imm19 rt) s =
    .next { s with pc := wordPlus s.pc (if xNat sf rt s = 0 then 4 else 4 * imm19.toInt) })

/-- O40. ADD and SUB (immediate): the new register or SP, and nothing else (spec/44_dp_immediate.md R260,
spec/44_dp_immediate.md R261, spec/44_dp_immediate.md R263, spec/44_dp_immediate.md R265). -/
def Obligations.AddSubImmediateValues : Prop :=
  ∀ (sf sh : BitVec 1) (imm12 : BitVec 12) (rn rd : RegIdx) (s : State),
  exec (.addImm sf sh imm12 rn rd) s =
    .next { s.writeXSP rd (BitVec.ofNat 64 ((xspNat sf rn s + immNat sh imm12) % 2 ^ widthOf sf))
            with pc := wordPlus s.pc 4 } ∧
  exec (.subImm sf sh imm12 rn rd) s =
    .next { s.writeXSP rd (BitVec.ofNat 64 ((xspNat sf rn s + 2 ^ widthOf sf - immNat sh imm12) % 2 ^ widthOf sf))
            with pc := wordPlus s.pc 4 }

/-- O41. ADDS and SUBS (immediate): the new register and the four flags (spec/44_dp_immediate.md R261,
spec/44_dp_immediate.md R262, spec/44_dp_immediate.md R264, spec/44_dp_immediate.md R266, spec/10_state.md
R41). -/
def Obligations.AddSubImmediateFlagValues : Prop :=
  ∀ (sf sh : BitVec 1) (imm12 : BitVec 12) (rn rd : RegIdx) (s : State),
  exec (.addsImm sf sh imm12 rn rd) s =
    .next { s.writeX rd (BitVec.ofNat 64 ((xspNat sf rn s + immNat sh imm12) % 2 ^ widthOf sf))
            with pc := wordPlus s.pc 4, flags := sumFlags (widthOf sf) (xspNat sf rn s) (immNat sh imm12) } ∧
  exec (.subsImm sf sh imm12 rn rd) s =
    .next { s.writeX rd (BitVec.ofNat 64 ((xspNat sf rn s + 2 ^ widthOf sf - immNat sh imm12) % 2 ^ widthOf sf))
            with pc := wordPlus s.pc 4, flags := differenceFlags (widthOf sf) (xspNat sf rn s) (immNat sh imm12) }

/-- O42. MOVN, MOVZ and MOVK bit by bit (spec/44_dp_immediate.md R267, spec/44_dp_immediate.md R268,
spec/44_dp_immediate.md R269, spec/44_dp_immediate.md R270). -/
def Obligations.MoveWideBits : Prop :=
  ∀ (sf : BitVec 1) (hw : BitVec 2) (imm16 : BitVec 16) (rd : RegIdx) (s : State), sf = 1#1 ∨ hw.toNat < 2 →
  (∃ r : Word, exec (.movn sf hw imm16 rd) s = .next { s.writeX rd r with pc := wordPlus s.pc 4 } ∧
    ∀ k, k < 64 → r.getLsbD k = (decide (k < widthOf sf) &&
      !(if k / 16 = hw.toNat then imm16.getLsbD (k % 16) else false))) ∧
  (∃ r : Word, exec (.movz sf hw imm16 rd) s = .next { s.writeX rd r with pc := wordPlus s.pc 4 } ∧
    ∀ k, k < 64 → r.getLsbD k = (if k / 16 = hw.toNat then imm16.getLsbD (k % 16) else false)) ∧
  (∃ r : Word, exec (.movk sf hw imm16 rd) s = .next { s.writeX rd r with pc := wordPlus s.pc 4 } ∧
    ∀ k, k < 64 → r.getLsbD k = (decide (k < widthOf sf) &&
      (if k / 16 = hw.toNat then imm16.getLsbD (k % 16) else (s.readX rd).getLsbD k)))

/-- O43. ADR and ADRP: the address formed (spec/44_dp_immediate.md R271, spec/44_dp_immediate.md R272,
spec/44_dp_immediate.md R273). -/
def Obligations.PcRelativeAddresses : Prop :=
  ∀ (immlo : BitVec 2) (immhi : BitVec 19) (rd : RegIdx) (s : State),
  exec (.adr immlo immhi rd) s =
    .next { s.writeX rd (wordPlus s.pc (4 * immhi.toInt + immlo.toNat)) with pc := wordPlus s.pc 4 } ∧
  exec (.adrp immlo immhi rd) s =
    .next { s.writeX rd (wordPlus (BitVec.ofNat 64 (s.pc.toNat / 4096 * 4096)) (4096 * (4 * immhi.toInt + immlo.toNat)))
            with pc := wordPlus s.pc 4 }

/-- O44. ADD and SUB (shifted register): the new register, and nothing else (spec/45_dp_register.md R281,
spec/45_dp_register.md R282, spec/45_dp_register.md R283, spec/45_dp_register.md R285). -/
def Obligations.AddSubShiftedValues : Prop :=
  ∀ (sf : BitVec 1) (shift : BitVec 2) (rm : RegIdx) (imm6 : BitVec 6) (rn rd : RegIdx) (s : State),
  shift ≠ 3#2 → imm6.toNat < widthOf sf →
  exec (.addShifted sf shift rm imm6 rn rd) s =
    .next { s.writeX rd (BitVec.ofNat 64 ((xNat sf rn s + operandNat sf shift rm imm6 s) % 2 ^ widthOf sf))
            with pc := wordPlus s.pc 4 } ∧
  exec (.subShifted sf shift rm imm6 rn rd) s =
    .next { s.writeX rd
              (BitVec.ofNat 64 ((xNat sf rn s + 2 ^ widthOf sf - operandNat sf shift rm imm6 s) % 2 ^ widthOf sf))
            with pc := wordPlus s.pc 4 }

/-- O45. ADDS and SUBS (shifted register): the new register and the four flags (spec/45_dp_register.md R281,
spec/45_dp_register.md R282, spec/45_dp_register.md R284, spec/45_dp_register.md R286, spec/10_state.md
R41). -/
def Obligations.AddSubShiftedFlagValues : Prop :=
  ∀ (sf : BitVec 1) (shift : BitVec 2) (rm : RegIdx) (imm6 : BitVec 6) (rn rd : RegIdx) (s : State),
  shift ≠ 3#2 → imm6.toNat < widthOf sf →
  exec (.addsShifted sf shift rm imm6 rn rd) s =
    .next { s.writeX rd (BitVec.ofNat 64 ((xNat sf rn s + operandNat sf shift rm imm6 s) % 2 ^ widthOf sf))
            with pc := wordPlus s.pc 4, flags := sumFlags (widthOf sf) (xNat sf rn s) (operandNat sf shift rm imm6 s) } ∧
  exec (.subsShifted sf shift rm imm6 rn rd) s =
    .next { s.writeX rd
              (BitVec.ofNat 64 ((xNat sf rn s + 2 ^ widthOf sf - operandNat sf shift rm imm6 s) % 2 ^ widthOf sf))
            with
            pc := wordPlus s.pc 4
            flags := differenceFlags (widthOf sf) (xNat sf rn s) (operandNat sf shift rm imm6 s) }

/-- O46. AND, BIC, ORR, ORN, EOR and EON (shifted register): the new register, and nothing else
(spec/45_dp_register.md R282, spec/45_dp_register.md R287, spec/45_dp_register.md R288,
spec/45_dp_register.md R289, spec/45_dp_register.md R290, spec/45_dp_register.md R291,
spec/45_dp_register.md R292, spec/45_dp_register.md R293, spec/45_dp_register.md R294). -/
def Obligations.LogicalShiftedValues : Prop :=
  ∀ (sf : BitVec 1) (shift : BitVec 2) (rm : RegIdx) (imm6 : BitVec 6) (rn rd : RegIdx) (s : State),
  imm6.toNat < widthOf sf →
  exec (.andShifted sf shift rm imm6 rn rd) s =
    .next { s.writeX rd (BitVec.ofNat 64 (xNat sf rn s &&& operandNat sf shift rm imm6 s)) with pc := wordPlus s.pc 4 } ∧
  exec (.bicShifted sf shift rm imm6 rn rd) s =
    .next { s.writeX rd (BitVec.ofNat 64 (xNat sf rn s &&& complementNat (widthOf sf) (operandNat sf shift rm imm6 s))) with pc := wordPlus s.pc 4 } ∧
  exec (.orrShifted sf shift rm imm6 rn rd) s =
    .next { s.writeX rd (BitVec.ofNat 64 (xNat sf rn s ||| operandNat sf shift rm imm6 s)) with pc := wordPlus s.pc 4 } ∧
  exec (.ornShifted sf shift rm imm6 rn rd) s =
    .next { s.writeX rd (BitVec.ofNat 64 (xNat sf rn s ||| complementNat (widthOf sf) (operandNat sf shift rm imm6 s))) with pc := wordPlus s.pc 4 } ∧
  exec (.eorShifted sf shift rm imm6 rn rd) s =
    .next { s.writeX rd (BitVec.ofNat 64 (xNat sf rn s ^^^ operandNat sf shift rm imm6 s)) with pc := wordPlus s.pc 4 } ∧
  exec (.eonShifted sf shift rm imm6 rn rd) s =
    .next { s.writeX rd (BitVec.ofNat 64 (xNat sf rn s ^^^ complementNat (widthOf sf) (operandNat sf shift rm imm6 s))) with pc := wordPlus s.pc 4 }

/-- O47. ANDS and BICS (shifted register): the new register and the four flags (spec/45_dp_register.md R288,
spec/45_dp_register.md R295, spec/45_dp_register.md R296). -/
def Obligations.LogicalShiftedFlagValues : Prop :=
  ∀ (sf : BitVec 1) (shift : BitVec 2) (rm : RegIdx) (imm6 : BitVec 6) (rn rd : RegIdx) (s : State),
  imm6.toNat < widthOf sf →
  exec (.andsShifted sf shift rm imm6 rn rd) s =
    .next { s.writeX rd (BitVec.ofNat 64 (xNat sf rn s &&& operandNat sf shift rm imm6 s))
            with pc := wordPlus s.pc 4, flags := bitwiseFlags (widthOf sf) (xNat sf rn s &&& operandNat sf shift rm imm6 s) } ∧
  exec (.bicsShifted sf shift rm imm6 rn rd) s =
    .next { s.writeX rd (BitVec.ofNat 64 (xNat sf rn s &&& complementNat (widthOf sf) (operandNat sf shift rm imm6 s)))
            with pc := wordPlus s.pc 4, flags := bitwiseFlags (widthOf sf) (xNat sf rn s &&& complementNat (widthOf sf) (operandNat sf shift rm imm6 s)) }

/-- O48. Reserved field combinations fault Illegal and change nothing else (spec/40_simd_three_same.md R156,
spec/43_loads_and_stores.md R233, spec/44_dp_immediate.md R267, spec/45_dp_register.md R280,
spec/45_dp_register.md R287). -/
def Obligations.ReservedFieldsFaultIllegal : Prop :=
  (∀ (rm rn rd : RegIdx) (s : State),
    exec (.addVector 0#1 3#2 rm rn rd) s = .next { s with err := .illegal (Config.msg .addVectorReserved) }) ∧
  (∀ (imm9 : BitVec 9) (r : RegIdx) (s : State), r ≠ 31#5 →
    exec (.strbPost imm9 r r) s = .next { s with err := .illegal (Config.msg .ldstWritebackConflict) } ∧
    exec (.strbPre imm9 r r) s = .next { s with err := .illegal (Config.msg .ldstWritebackConflict) } ∧
    exec (.ldrbPost imm9 r r) s = .next { s with err := .illegal (Config.msg .ldstWritebackConflict) } ∧
    exec (.ldrbPre imm9 r r) s = .next { s with err := .illegal (Config.msg .ldstWritebackConflict) } ∧
    exec (.strhPost imm9 r r) s = .next { s with err := .illegal (Config.msg .ldstWritebackConflict) } ∧
    exec (.strhPre imm9 r r) s = .next { s with err := .illegal (Config.msg .ldstWritebackConflict) } ∧
    exec (.ldrhPost imm9 r r) s = .next { s with err := .illegal (Config.msg .ldstWritebackConflict) } ∧
    exec (.ldrhPre imm9 r r) s = .next { s with err := .illegal (Config.msg .ldstWritebackConflict) } ∧
    exec (.strWPost imm9 r r) s = .next { s with err := .illegal (Config.msg .ldstWritebackConflict) } ∧
    exec (.strWPre imm9 r r) s = .next { s with err := .illegal (Config.msg .ldstWritebackConflict) } ∧
    exec (.ldrWPost imm9 r r) s = .next { s with err := .illegal (Config.msg .ldstWritebackConflict) } ∧
    exec (.ldrWPre imm9 r r) s = .next { s with err := .illegal (Config.msg .ldstWritebackConflict) } ∧
    exec (.strXPost imm9 r r) s = .next { s with err := .illegal (Config.msg .ldstWritebackConflict) } ∧
    exec (.strXPre imm9 r r) s = .next { s with err := .illegal (Config.msg .ldstWritebackConflict) } ∧
    exec (.ldrXPost imm9 r r) s = .next { s with err := .illegal (Config.msg .ldstWritebackConflict) } ∧
    exec (.ldrXPre imm9 r r) s = .next { s with err := .illegal (Config.msg .ldstWritebackConflict) }) ∧
  (∀ (hw : BitVec 2) (imm16 : BitVec 16) (rd : RegIdx) (s : State), 2 ≤ hw.toNat →
    exec (.movn 0#1 hw imm16 rd) s = .next { s with err := .illegal (Config.msg .moveWideHwReserved) } ∧
    exec (.movz 0#1 hw imm16 rd) s = .next { s with err := .illegal (Config.msg .moveWideHwReserved) } ∧
    exec (.movk 0#1 hw imm16 rd) s = .next { s with err := .illegal (Config.msg .moveWideHwReserved) }) ∧
  (∀ (sf : BitVec 1) (rm : RegIdx) (imm6 : BitVec 6) (rn rd : RegIdx) (s : State),
    exec (.addShifted sf 3#2 rm imm6 rn rd) s = .next { s with err := .illegal (Config.msg .addSubShiftReserved) } ∧
    exec (.addsShifted sf 3#2 rm imm6 rn rd) s = .next { s with err := .illegal (Config.msg .addSubShiftReserved) } ∧
    exec (.subShifted sf 3#2 rm imm6 rn rd) s = .next { s with err := .illegal (Config.msg .addSubShiftReserved) } ∧
    exec (.subsShifted sf 3#2 rm imm6 rn rd) s = .next { s with err := .illegal (Config.msg .addSubShiftReserved) }) ∧
  (∀ (shift : BitVec 2) (rm : RegIdx) (imm6 : BitVec 6) (rn rd : RegIdx) (s : State), 32 ≤ imm6.toNat → shift ≠ 3#2 →
    exec (.addShifted 0#1 shift rm imm6 rn rd) s = .next { s with err := .illegal (Config.msg .addSubAmountReserved) } ∧
    exec (.addsShifted 0#1 shift rm imm6 rn rd) s = .next { s with err := .illegal (Config.msg .addSubAmountReserved) } ∧
    exec (.subShifted 0#1 shift rm imm6 rn rd) s = .next { s with err := .illegal (Config.msg .addSubAmountReserved) } ∧
    exec (.subsShifted 0#1 shift rm imm6 rn rd) s = .next { s with err := .illegal (Config.msg .addSubAmountReserved) }) ∧
  (∀ (shift : BitVec 2) (rm : RegIdx) (imm6 : BitVec 6) (rn rd : RegIdx) (s : State), 32 ≤ imm6.toNat →
    exec (.andShifted 0#1 shift rm imm6 rn rd) s = .next { s with err := .illegal (Config.msg .logicalAmountReserved) } ∧
    exec (.bicShifted 0#1 shift rm imm6 rn rd) s = .next { s with err := .illegal (Config.msg .logicalAmountReserved) } ∧
    exec (.orrShifted 0#1 shift rm imm6 rn rd) s = .next { s with err := .illegal (Config.msg .logicalAmountReserved) } ∧
    exec (.ornShifted 0#1 shift rm imm6 rn rd) s = .next { s with err := .illegal (Config.msg .logicalAmountReserved) } ∧
    exec (.eorShifted 0#1 shift rm imm6 rn rd) s = .next { s with err := .illegal (Config.msg .logicalAmountReserved) } ∧
    exec (.eonShifted 0#1 shift rm imm6 rn rd) s = .next { s with err := .illegal (Config.msg .logicalAmountReserved) } ∧
    exec (.andsShifted 0#1 shift rm imm6 rn rd) s = .next { s with err := .illegal (Config.msg .logicalAmountReserved) } ∧
    exec (.bicsShifted 0#1 shift rm imm6 rn rd) s = .next { s with err := .illegal (Config.msg .logicalAmountReserved) })

/-- O49. STRB, STRH, STR (32-bit), STR (64-bit), each in three addressing forms: what is stored and where
(spec/43_loads_and_stores.md R230, spec/43_loads_and_stores.md R231, spec/43_loads_and_stores.md R232,
spec/43_loads_and_stores.md R234, spec/43_loads_and_stores.md R235, spec/43_loads_and_stores.md R236,
spec/43_loads_and_stores.md R238, spec/43_loads_and_stores.md R240, spec/43_loads_and_stores.md R242). -/
def Obligations.GeneralStoresComplete : Prop :=
    (∀ (imm12 : BitVec 12) (rn rt : RegIdx), storesGpr 0 (.unsignedOffset imm12) rn rt (.strbOff imm12 rn rt)) ∧
  (∀ (imm9 : BitVec 9) (rn rt : RegIdx), storesGpr 0 (.postIndex imm9) rn rt (.strbPost imm9 rn rt)) ∧
  (∀ (imm9 : BitVec 9) (rn rt : RegIdx), storesGpr 0 (.preIndex imm9) rn rt (.strbPre imm9 rn rt)) ∧
  (∀ (imm12 : BitVec 12) (rn rt : RegIdx), storesGpr 1 (.unsignedOffset imm12) rn rt (.strhOff imm12 rn rt)) ∧
  (∀ (imm9 : BitVec 9) (rn rt : RegIdx), storesGpr 1 (.postIndex imm9) rn rt (.strhPost imm9 rn rt)) ∧
  (∀ (imm9 : BitVec 9) (rn rt : RegIdx), storesGpr 1 (.preIndex imm9) rn rt (.strhPre imm9 rn rt)) ∧
  (∀ (imm12 : BitVec 12) (rn rt : RegIdx), storesGpr 2 (.unsignedOffset imm12) rn rt (.strWOff imm12 rn rt)) ∧
  (∀ (imm9 : BitVec 9) (rn rt : RegIdx), storesGpr 2 (.postIndex imm9) rn rt (.strWPost imm9 rn rt)) ∧
  (∀ (imm9 : BitVec 9) (rn rt : RegIdx), storesGpr 2 (.preIndex imm9) rn rt (.strWPre imm9 rn rt)) ∧
  (∀ (imm12 : BitVec 12) (rn rt : RegIdx), storesGpr 3 (.unsignedOffset imm12) rn rt (.strXOff imm12 rn rt)) ∧
  (∀ (imm9 : BitVec 9) (rn rt : RegIdx), storesGpr 3 (.postIndex imm9) rn rt (.strXPost imm9 rn rt)) ∧
  (∀ (imm9 : BitVec 9) (rn rt : RegIdx), storesGpr 3 (.preIndex imm9) rn rt (.strXPre imm9 rn rt))

/-- O50. LDRB, LDRH, LDR (32-bit), LDR (64-bit), each in three addressing forms: what is loaded and from where
(spec/43_loads_and_stores.md R230, spec/43_loads_and_stores.md R231, spec/43_loads_and_stores.md R232,
spec/43_loads_and_stores.md R234, spec/43_loads_and_stores.md R235, spec/43_loads_and_stores.md R237,
spec/43_loads_and_stores.md R239, spec/43_loads_and_stores.md R241, spec/43_loads_and_stores.md R243). -/
def Obligations.GeneralLoadsComplete : Prop :=
    (∀ (imm12 : BitVec 12) (rn rt : RegIdx), loadsGpr 0 (.unsignedOffset imm12) rn rt (.ldrbOff imm12 rn rt)) ∧
  (∀ (imm9 : BitVec 9) (rn rt : RegIdx), loadsGpr 0 (.postIndex imm9) rn rt (.ldrbPost imm9 rn rt)) ∧
  (∀ (imm9 : BitVec 9) (rn rt : RegIdx), loadsGpr 0 (.preIndex imm9) rn rt (.ldrbPre imm9 rn rt)) ∧
  (∀ (imm12 : BitVec 12) (rn rt : RegIdx), loadsGpr 1 (.unsignedOffset imm12) rn rt (.ldrhOff imm12 rn rt)) ∧
  (∀ (imm9 : BitVec 9) (rn rt : RegIdx), loadsGpr 1 (.postIndex imm9) rn rt (.ldrhPost imm9 rn rt)) ∧
  (∀ (imm9 : BitVec 9) (rn rt : RegIdx), loadsGpr 1 (.preIndex imm9) rn rt (.ldrhPre imm9 rn rt)) ∧
  (∀ (imm12 : BitVec 12) (rn rt : RegIdx), loadsGpr 2 (.unsignedOffset imm12) rn rt (.ldrWOff imm12 rn rt)) ∧
  (∀ (imm9 : BitVec 9) (rn rt : RegIdx), loadsGpr 2 (.postIndex imm9) rn rt (.ldrWPost imm9 rn rt)) ∧
  (∀ (imm9 : BitVec 9) (rn rt : RegIdx), loadsGpr 2 (.preIndex imm9) rn rt (.ldrWPre imm9 rn rt)) ∧
  (∀ (imm12 : BitVec 12) (rn rt : RegIdx), loadsGpr 3 (.unsignedOffset imm12) rn rt (.ldrXOff imm12 rn rt)) ∧
  (∀ (imm9 : BitVec 9) (rn rt : RegIdx), loadsGpr 3 (.postIndex imm9) rn rt (.ldrXPost imm9 rn rt)) ∧
  (∀ (imm9 : BitVec 9) (rn rt : RegIdx), loadsGpr 3 (.preIndex imm9) rn rt (.ldrXPre imm9 rn rt))

/-- O51. STR of B, H, S, D and Q registers, each in three addressing forms: what is stored and where
(spec/43_loads_and_stores.md R230, spec/43_loads_and_stores.md R231, spec/43_loads_and_stores.md R232,
spec/43_loads_and_stores.md R234, spec/43_loads_and_stores.md R235, spec/43_loads_and_stores.md R244,
spec/43_loads_and_stores.md R246, spec/43_loads_and_stores.md R248, spec/43_loads_and_stores.md R250,
spec/43_loads_and_stores.md R252). -/
def Obligations.SimdStoresComplete : Prop :=
    (∀ (imm12 : BitVec 12) (rn rt : RegIdx), storesSimd 0 (.unsignedOffset imm12) rn rt (.strSimdBOff imm12 rn rt)) ∧
  (∀ (imm9 : BitVec 9) (rn rt : RegIdx), storesSimd 0 (.postIndex imm9) rn rt (.strSimdBPost imm9 rn rt)) ∧
  (∀ (imm9 : BitVec 9) (rn rt : RegIdx), storesSimd 0 (.preIndex imm9) rn rt (.strSimdBPre imm9 rn rt)) ∧
  (∀ (imm12 : BitVec 12) (rn rt : RegIdx), storesSimd 1 (.unsignedOffset imm12) rn rt (.strSimdHOff imm12 rn rt)) ∧
  (∀ (imm9 : BitVec 9) (rn rt : RegIdx), storesSimd 1 (.postIndex imm9) rn rt (.strSimdHPost imm9 rn rt)) ∧
  (∀ (imm9 : BitVec 9) (rn rt : RegIdx), storesSimd 1 (.preIndex imm9) rn rt (.strSimdHPre imm9 rn rt)) ∧
  (∀ (imm12 : BitVec 12) (rn rt : RegIdx), storesSimd 2 (.unsignedOffset imm12) rn rt (.strSimdSOff imm12 rn rt)) ∧
  (∀ (imm9 : BitVec 9) (rn rt : RegIdx), storesSimd 2 (.postIndex imm9) rn rt (.strSimdSPost imm9 rn rt)) ∧
  (∀ (imm9 : BitVec 9) (rn rt : RegIdx), storesSimd 2 (.preIndex imm9) rn rt (.strSimdSPre imm9 rn rt)) ∧
  (∀ (imm12 : BitVec 12) (rn rt : RegIdx), storesSimd 3 (.unsignedOffset imm12) rn rt (.strSimdDOff imm12 rn rt)) ∧
  (∀ (imm9 : BitVec 9) (rn rt : RegIdx), storesSimd 3 (.postIndex imm9) rn rt (.strSimdDPost imm9 rn rt)) ∧
  (∀ (imm9 : BitVec 9) (rn rt : RegIdx), storesSimd 3 (.preIndex imm9) rn rt (.strSimdDPre imm9 rn rt)) ∧
  (∀ (imm12 : BitVec 12) (rn rt : RegIdx), storesSimd 4 (.unsignedOffset imm12) rn rt (.strSimdQOff imm12 rn rt)) ∧
  (∀ (imm9 : BitVec 9) (rn rt : RegIdx), storesSimd 4 (.postIndex imm9) rn rt (.strSimdQPost imm9 rn rt)) ∧
  (∀ (imm9 : BitVec 9) (rn rt : RegIdx), storesSimd 4 (.preIndex imm9) rn rt (.strSimdQPre imm9 rn rt))

/-- O52. LDR of B, H, S, D and Q registers, each in three addressing forms: what is loaded and from where
(spec/43_loads_and_stores.md R230, spec/43_loads_and_stores.md R231, spec/43_loads_and_stores.md R232,
spec/43_loads_and_stores.md R234, spec/43_loads_and_stores.md R235, spec/43_loads_and_stores.md R245,
spec/43_loads_and_stores.md R247, spec/43_loads_and_stores.md R249, spec/43_loads_and_stores.md R251,
spec/43_loads_and_stores.md R253). -/
def Obligations.SimdLoadsComplete : Prop :=
    (∀ (imm12 : BitVec 12) (rn rt : RegIdx), loadsSimd 0 (.unsignedOffset imm12) rn rt (.ldrSimdBOff imm12 rn rt)) ∧
  (∀ (imm9 : BitVec 9) (rn rt : RegIdx), loadsSimd 0 (.postIndex imm9) rn rt (.ldrSimdBPost imm9 rn rt)) ∧
  (∀ (imm9 : BitVec 9) (rn rt : RegIdx), loadsSimd 0 (.preIndex imm9) rn rt (.ldrSimdBPre imm9 rn rt)) ∧
  (∀ (imm12 : BitVec 12) (rn rt : RegIdx), loadsSimd 1 (.unsignedOffset imm12) rn rt (.ldrSimdHOff imm12 rn rt)) ∧
  (∀ (imm9 : BitVec 9) (rn rt : RegIdx), loadsSimd 1 (.postIndex imm9) rn rt (.ldrSimdHPost imm9 rn rt)) ∧
  (∀ (imm9 : BitVec 9) (rn rt : RegIdx), loadsSimd 1 (.preIndex imm9) rn rt (.ldrSimdHPre imm9 rn rt)) ∧
  (∀ (imm12 : BitVec 12) (rn rt : RegIdx), loadsSimd 2 (.unsignedOffset imm12) rn rt (.ldrSimdSOff imm12 rn rt)) ∧
  (∀ (imm9 : BitVec 9) (rn rt : RegIdx), loadsSimd 2 (.postIndex imm9) rn rt (.ldrSimdSPost imm9 rn rt)) ∧
  (∀ (imm9 : BitVec 9) (rn rt : RegIdx), loadsSimd 2 (.preIndex imm9) rn rt (.ldrSimdSPre imm9 rn rt)) ∧
  (∀ (imm12 : BitVec 12) (rn rt : RegIdx), loadsSimd 3 (.unsignedOffset imm12) rn rt (.ldrSimdDOff imm12 rn rt)) ∧
  (∀ (imm9 : BitVec 9) (rn rt : RegIdx), loadsSimd 3 (.postIndex imm9) rn rt (.ldrSimdDPost imm9 rn rt)) ∧
  (∀ (imm9 : BitVec 9) (rn rt : RegIdx), loadsSimd 3 (.preIndex imm9) rn rt (.ldrSimdDPre imm9 rn rt)) ∧
  (∀ (imm12 : BitVec 12) (rn rt : RegIdx), loadsSimd 4 (.unsignedOffset imm12) rn rt (.ldrSimdQOff imm12 rn rt)) ∧
  (∀ (imm9 : BitVec 9) (rn rt : RegIdx), loadsSimd 4 (.postIndex imm9) rn rt (.ldrSimdQPost imm9 rn rt)) ∧
  (∀ (imm9 : BitVec 9) (rn rt : RegIdx), loadsSimd 4 (.preIndex imm9) rn rt (.ldrSimdQPre imm9 rn rt))

/-- O53. A load or store on a misaligned SP faults Illegal before its access when SP_ALIGN_CHECK is true
(spec/20_memory.md R78, spec/43_loads_and_stores.md R233). -/
def Obligations.MisalignedSpFaults : Prop :=
  ∀ (op : LdstOp) (form : AddrForm) (rt : RegIdx) (s : State), s.sp.toNat % 16 ≠ 0 →
  if Config.spAlignCheck = true then
    exec (ldstInstr 31#5 rt op form) s = .next { s with err := .illegal (Config.msg .spAlign) }
  else ∃ t, exec (ldstInstr 31#5 rt op form) s = .next t ∧ t.err = s.err ∧ t.pc = wordPlus s.pc 4

/-- O54. The vector and AES instructions change V[d] and pc only (spec/40_simd_three_same.md R152,
spec/40_simd_three_same.md R154, spec/41_crypto_aes.md R190, spec/10_state.md R51). -/
def Obligations.FrameVectorAndAes : Prop :=
  ∀ (q : BitVec 1) (size : BitVec 2) (rm rn rd : RegIdx) (s t : State),
  (exec (.addVector q size rm rn rd) s = .next t ∨
    exec (.andVector q rm rn rd) s = .next t ∨
    exec (.bicVector q rm rn rd) s = .next t ∨
    exec (.orrVector q rm rn rd) s = .next t ∨
    exec (.ornVector q rm rn rd) s = .next t ∨
    exec (.eorVector q rm rn rd) s = .next t ∨
    exec (.bslVector q rm rn rd) s = .next t ∨
    exec (.bitVector q rm rn rd) s = .next t ∨
    exec (.bifVector q rm rn rd) s = .next t ∨
    exec (.aese rn rd) s = .next t ∨
    exec (.aesd rn rd) s = .next t ∨
    exec (.aesmc rn rd) s = .next t ∨
    exec (.aesimc rn rd) s = .next t) →
  keepsV s t [rd] ∧ t.x = s.x ∧ t.sp = s.sp ∧ t.flags = s.flags ∧ keepsMem s t ∧ keepsErr s t

/-- O55. Branches and NOP change pc, and BL and BLR also X30 (spec/42_branches_and_system.md R202,
spec/10_state.md R51). -/
def Obligations.FrameBranches : Prop :=
  (∀ (imm26 : BitVec 26) (imm19 : BitVec 19) (cond : BitVec 4) (sf : BitVec 1) (r : RegIdx) (s t : State),
  (exec (.b imm26) s = .next t ∨ exec (.bCond imm19 cond) s = .next t ∨ exec (.cbz sf imm19 r) s = .next t ∨
    exec (.cbnz sf imm19 r) s = .next t ∨ exec (.br r) s = .next t ∨ exec (.ret r) s = .next t ∨
    exec .nop s = .next t) →
  keepsX s t [] ∧ t.sp = s.sp ∧ t.v = s.v ∧ t.flags = s.flags ∧ keepsMem s t ∧ t.err = s.err) ∧
  (∀ (imm26 : BitVec 26) (r : RegIdx) (s t : State), (exec (.bl imm26) s = .next t ∨ exec (.blr r) s = .next t) →
    keepsX s t [30#5] ∧ t.sp = s.sp ∧ t.v = s.v ∧ t.flags = s.flags ∧ keepsMem s t ∧ t.err = s.err)

/-- O56. The data-processing instructions that set no flags change X[d] or SP, and pc, only (spec/10_state.md
R36, spec/10_state.md R42, spec/10_state.md R51, spec/45_dp_register.md R288). -/
def Obligations.FrameDataProcessingWithoutFlags : Prop :=
  (∀ (hw : BitVec 2) (imm16 : BitVec 16) (immlo : BitVec 2) (immhi : BitVec 19)
    (sf : BitVec 1) (shift : BitVec 2) (rm : RegIdx) (imm6 : BitVec 6) (rn rd : RegIdx) (s t : State),
  (exec (.movn sf hw imm16 rd) s = .next t ∨
    exec (.movz sf hw imm16 rd) s = .next t ∨
    exec (.movk sf hw imm16 rd) s = .next t ∨
    exec (.adr immlo immhi rd) s = .next t ∨
    exec (.adrp immlo immhi rd) s = .next t ∨
    exec (.addShifted sf shift rm imm6 rn rd) s = .next t ∨
    exec (.subShifted sf shift rm imm6 rn rd) s = .next t ∨
    exec (.andShifted sf shift rm imm6 rn rd) s = .next t ∨
    exec (.bicShifted sf shift rm imm6 rn rd) s = .next t ∨
    exec (.orrShifted sf shift rm imm6 rn rd) s = .next t ∨
    exec (.ornShifted sf shift rm imm6 rn rd) s = .next t ∨
    exec (.eorShifted sf shift rm imm6 rn rd) s = .next t ∨
    exec (.eonShifted sf shift rm imm6 rn rd) s = .next t) →
  keepsX s t [rd] ∧ t.sp = s.sp ∧ t.v = s.v ∧ t.flags = s.flags ∧ keepsMem s t ∧ keepsErr s t) ∧
  (∀ (sf sh : BitVec 1) (imm12 : BitVec 12) (rn rd : RegIdx) (s t : State),
    (exec (.addImm sf sh imm12 rn rd) s = .next t ∨ exec (.subImm sf sh imm12 rn rd) s = .next t) →
    keepsX s t [rd] ∧ (rd ≠ 31#5 → t.sp = s.sp) ∧ t.v = s.v ∧ t.flags = s.flags ∧ keepsMem s t ∧ t.err = s.err)

/-- O57. The flag-setting instructions change X[d], the flags and pc only (spec/10_state.md R36,
spec/10_state.md R42, spec/10_state.md R51). -/
def Obligations.FrameDataProcessingWithFlags : Prop :=
  ∀ (sh : BitVec 1) (imm12 : BitVec 12) (sf : BitVec 1) (shift : BitVec 2) (rm : RegIdx) (imm6 : BitVec 6) (rn rd : RegIdx) (s t : State),
  (exec (.addsImm sf sh imm12 rn rd) s = .next t ∨ exec (.subsImm sf sh imm12 rn rd) s = .next t ∨
    exec (.addsShifted sf shift rm imm6 rn rd) s = .next t ∨
    exec (.subsShifted sf shift rm imm6 rn rd) s = .next t ∨
    exec (.andsShifted sf shift rm imm6 rn rd) s = .next t ∨
    exec (.bicsShifted sf shift rm imm6 rn rd) s = .next t) →
  keepsX s t [rd] ∧ (rd = 31#5 → t.x = s.x) ∧ t.sp = s.sp ∧ t.v = s.v ∧ keepsMem s t ∧ keepsErr s t

/-- O58. Loads change their data register, the written-back base and pc only (spec/43_loads_and_stores.md R231,
spec/43_loads_and_stores.md R234, spec/10_state.md R51). -/
def Obligations.FrameLoads : Prop :=
  ∀ (imm12 : BitVec 12) (imm9 : BitVec 9) (rn rt : RegIdx) (s t : State),
  ((exec (.ldrbOff imm12 rn rt) s = .next t ∨ exec (.ldrhOff imm12 rn rt) s = .next t ∨
    exec (.ldrWOff imm12 rn rt) s = .next t ∨ exec (.ldrXOff imm12 rn rt) s = .next t) →
    keepsX s t [rt] ∧ t.sp = s.sp ∧ t.v = s.v ∧ t.flags = s.flags ∧ keepsMem s t ∧ keepsErr s t) ∧
  ((exec (.ldrbPost imm9 rn rt) s = .next t ∨ exec (.ldrhPost imm9 rn rt) s = .next t ∨
    exec (.ldrWPost imm9 rn rt) s = .next t ∨ exec (.ldrXPost imm9 rn rt) s = .next t ∨
    exec (.ldrbPre imm9 rn rt) s = .next t ∨ exec (.ldrhPre imm9 rn rt) s = .next t ∨
    exec (.ldrWPre imm9 rn rt) s = .next t ∨ exec (.ldrXPre imm9 rn rt) s = .next t) →
    keepsX s t [rt, rn] ∧ (rn ≠ 31#5 → t.sp = s.sp) ∧ t.v = s.v ∧ t.flags = s.flags ∧ keepsMem s t ∧ keepsErr s t) ∧
   ((exec (.ldrSimdBOff imm12 rn rt) s = .next t ∨ exec (.ldrSimdHOff imm12 rn rt) s = .next t ∨
    exec (.ldrSimdSOff imm12 rn rt) s = .next t ∨ exec (.ldrSimdDOff imm12 rn rt) s = .next t ∨
    exec (.ldrSimdQOff imm12 rn rt) s = .next t) →
    keepsV s t [rt] ∧ keepsX s t [] ∧ t.sp = s.sp ∧ t.flags = s.flags ∧ keepsMem s t ∧ keepsErr s t) ∧
  ((exec (.ldrSimdBPost imm9 rn rt) s = .next t ∨ exec (.ldrSimdHPost imm9 rn rt) s = .next t ∨
    exec (.ldrSimdSPost imm9 rn rt) s = .next t ∨ exec (.ldrSimdDPost imm9 rn rt) s = .next t ∨
    exec (.ldrSimdQPost imm9 rn rt) s = .next t ∨ exec (.ldrSimdBPre imm9 rn rt) s = .next t ∨
    exec (.ldrSimdHPre imm9 rn rt) s = .next t ∨ exec (.ldrSimdSPre imm9 rn rt) s = .next t ∨
    exec (.ldrSimdDPre imm9 rn rt) s = .next t ∨ exec (.ldrSimdQPre imm9 rn rt) s = .next t) →
    keepsV s t [rt] ∧ keepsX s t [rn] ∧ (rn ≠ 31#5 → t.sp = s.sp) ∧ t.flags = s.flags ∧ keepsMem s t ∧ keepsErr s t)

/-- O59. Stores change the stored bytes, the written-back base and pc only (spec/43_loads_and_stores.md R231,
spec/43_loads_and_stores.md R232, spec/43_loads_and_stores.md R235, spec/20_memory.md R72, spec/10_state.md
R51). -/
def Obligations.FrameStores : Prop :=
  ∀ (imm12 : BitVec 12) (imm9 : BitVec 9) (rn rt : RegIdx) (s t : State),
  (exec (.strbOff imm12 rn rt) s = .next t →
    keepsMemOutside s t (ldstAddress 0 (.unsignedOffset imm12) rn s).1 1 ∧ storeFrame s t []) ∧
  (exec (.strbPost imm9 rn rt) s = .next t →
    keepsMemOutside s t (ldstAddress 0 (.postIndex imm9) rn s).1 1 ∧ storeFrame s t [rn]) ∧
  (exec (.strbPre imm9 rn rt) s = .next t →
    keepsMemOutside s t (ldstAddress 0 (.preIndex imm9) rn s).1 1 ∧ storeFrame s t [rn]) ∧
  (exec (.strhOff imm12 rn rt) s = .next t →
    keepsMemOutside s t (ldstAddress 1 (.unsignedOffset imm12) rn s).1 2 ∧ storeFrame s t []) ∧
  (exec (.strhPost imm9 rn rt) s = .next t →
    keepsMemOutside s t (ldstAddress 1 (.postIndex imm9) rn s).1 2 ∧ storeFrame s t [rn]) ∧
  (exec (.strhPre imm9 rn rt) s = .next t →
    keepsMemOutside s t (ldstAddress 1 (.preIndex imm9) rn s).1 2 ∧ storeFrame s t [rn]) ∧
  (exec (.strWOff imm12 rn rt) s = .next t →
    keepsMemOutside s t (ldstAddress 2 (.unsignedOffset imm12) rn s).1 4 ∧ storeFrame s t []) ∧
  (exec (.strWPost imm9 rn rt) s = .next t →
    keepsMemOutside s t (ldstAddress 2 (.postIndex imm9) rn s).1 4 ∧ storeFrame s t [rn]) ∧
  (exec (.strWPre imm9 rn rt) s = .next t →
    keepsMemOutside s t (ldstAddress 2 (.preIndex imm9) rn s).1 4 ∧ storeFrame s t [rn]) ∧
  (exec (.strXOff imm12 rn rt) s = .next t →
    keepsMemOutside s t (ldstAddress 3 (.unsignedOffset imm12) rn s).1 8 ∧ storeFrame s t []) ∧
  (exec (.strXPost imm9 rn rt) s = .next t →
    keepsMemOutside s t (ldstAddress 3 (.postIndex imm9) rn s).1 8 ∧ storeFrame s t [rn]) ∧
  (exec (.strXPre imm9 rn rt) s = .next t →
    keepsMemOutside s t (ldstAddress 3 (.preIndex imm9) rn s).1 8 ∧ storeFrame s t [rn]) ∧
  (exec (.strSimdBOff imm12 rn rt) s = .next t →
    keepsMemOutside s t (ldstAddress 0 (.unsignedOffset imm12) rn s).1 1 ∧ storeFrame s t []) ∧
  (exec (.strSimdBPost imm9 rn rt) s = .next t →
    keepsMemOutside s t (ldstAddress 0 (.postIndex imm9) rn s).1 1 ∧ storeFrame s t [rn]) ∧
  (exec (.strSimdBPre imm9 rn rt) s = .next t →
    keepsMemOutside s t (ldstAddress 0 (.preIndex imm9) rn s).1 1 ∧ storeFrame s t [rn]) ∧
  (exec (.strSimdHOff imm12 rn rt) s = .next t →
    keepsMemOutside s t (ldstAddress 1 (.unsignedOffset imm12) rn s).1 2 ∧ storeFrame s t []) ∧
  (exec (.strSimdHPost imm9 rn rt) s = .next t →
    keepsMemOutside s t (ldstAddress 1 (.postIndex imm9) rn s).1 2 ∧ storeFrame s t [rn]) ∧
  (exec (.strSimdHPre imm9 rn rt) s = .next t →
    keepsMemOutside s t (ldstAddress 1 (.preIndex imm9) rn s).1 2 ∧ storeFrame s t [rn]) ∧
  (exec (.strSimdSOff imm12 rn rt) s = .next t →
    keepsMemOutside s t (ldstAddress 2 (.unsignedOffset imm12) rn s).1 4 ∧ storeFrame s t []) ∧
  (exec (.strSimdSPost imm9 rn rt) s = .next t →
    keepsMemOutside s t (ldstAddress 2 (.postIndex imm9) rn s).1 4 ∧ storeFrame s t [rn]) ∧
  (exec (.strSimdSPre imm9 rn rt) s = .next t →
    keepsMemOutside s t (ldstAddress 2 (.preIndex imm9) rn s).1 4 ∧ storeFrame s t [rn]) ∧
  (exec (.strSimdDOff imm12 rn rt) s = .next t →
    keepsMemOutside s t (ldstAddress 3 (.unsignedOffset imm12) rn s).1 8 ∧ storeFrame s t []) ∧
  (exec (.strSimdDPost imm9 rn rt) s = .next t →
    keepsMemOutside s t (ldstAddress 3 (.postIndex imm9) rn s).1 8 ∧ storeFrame s t [rn]) ∧
  (exec (.strSimdDPre imm9 rn rt) s = .next t →
    keepsMemOutside s t (ldstAddress 3 (.preIndex imm9) rn s).1 8 ∧ storeFrame s t [rn]) ∧
  (exec (.strSimdQOff imm12 rn rt) s = .next t →
    keepsMemOutside s t (ldstAddress 4 (.unsignedOffset imm12) rn s).1 16 ∧ storeFrame s t []) ∧
  (exec (.strSimdQPost imm9 rn rt) s = .next t →
    keepsMemOutside s t (ldstAddress 4 (.postIndex imm9) rn s).1 16 ∧ storeFrame s t [rn]) ∧
  (exec (.strSimdQPre imm9 rn rt) s = .next t →
    keepsMemOutside s t (ldstAddress 4 (.preIndex imm9) rn s).1 16 ∧ storeFrame s t [rn])

/-- O60. The values of extract, concatenate and the two extensions (spec/00_scope.md R16, spec/00_scope.md R17,
spec/00_scope.md R18). -/
def Obligations.ExtractConcatenateExtendValues : Prop :=
  ∀ (m n : Nat) (a : BitVec m) (b : BitVec n),
  (∀ (hi lo : Nat) (inRange : lo ≤ hi ∧ hi < m),
    (slice hi lo a inRange).toNat = a.toNat / 2 ^ lo % 2 ^ (hi - lo + 1)) ∧
  (concat a b).toNat = a.toNat * 2 ^ n + b.toNat ∧
  (∀ (N : Nat) (widens : m ≤ N),
    (zext N a widens).toNat = a.toNat ∧
    (0 < m → ((sext N a widens).toNat : Int) = signedNat m a.toNat % 2 ^ N)) ∧
  (∀ same : m ≤ m, zext m a same = a ∧ sext m a same = a)
end

