-- ==== Sys2Proof/Laws/Bits.lean ====
section
/-! SUPPORT. Lanes: what the reassembly of lanes holds (spec/40_simd_three_same.md R151). -/

namespace Sys2Proof.Machine

/-- Bit `b` of lane `e` of a reassembly is bit `b` of the lane put there. -/
theorem getLsbD_fromLanes (es k : Nat) (f : Nat → BitVec es) {e b : Nat} (he : e < k) (hb : b < es) :
    (fromLanes es k f).getLsbD (e * es + b) = (f e).getLsbD b := by
  induction k generalizing f e with
  | zero => omega
  | succ k ih =>
    rw [fromLanes, BitVec.getLsbD_append]
    cases e with
    | zero => simp [hb]
    | succ e =>
      have h1 : ¬ ((e + 1) * es + b < es) := by rw [Nat.add_mul]; omega
      have h2 : (e + 1) * es + b - es = e * es + b := by rw [Nat.add_mul]; omega
      rw [if_neg h1, h2]
      exact ih (fun e => f (e + 1)) (by omega)

/-- Lane `e` of a reassembly, itself extended by zeros, is the lane put there. -/
theorem elem_zext_fromLanes {es k n : Nat} (f : Nat → BitVec es) {e : Nat} (he : e < k) (hn : es * k ≤ n) :
    elem es (zext n (fromLanes es k f) hn) e = f e := by
  apply BitVec.eq_of_getLsbD_eq
  intro b hb
  have hle : (e + 1) * es ≤ k * es := Nat.mul_le_mul_right es he
  have hlt : e * es + b < n := by rw [Nat.add_mul] at hle; rw [Nat.mul_comm] at hn; omega
  simp only [elem, zext, BitVec.getLsbD_extractLsb', BitVec.getLsbD_setWidth, hb, hlt, decide_true, Bool.true_and]
  exact getLsbD_fromLanes es k f he hb

/-- Lane `e` of a reassembly is the lane put there. -/
theorem elem_fromLanes {es k : Nat} (f : Nat → BitVec es) {e : Nat} (he : e < k) :
    elem es (fromLanes es k f) e = f e := by
  apply BitVec.eq_of_getLsbD_eq
  intro b hb
  simp only [elem, BitVec.getLsbD_extractLsb', hb, decide_true, Bool.true_and]
  exact getLsbD_fromLanes es k f he hb

/-- Above its lanes an extended reassembly is zero. -/
theorem getLsbD_zext_fromLanes_above {es k n : Nat} (f : Nat → BitVec es) {b : Nat} (hn : es * k ≤ n) (hb : es * k ≤ b) :
    (zext n (fromLanes es k f) hn).getLsbD b = false := by
  simp [zext, BitVec.getLsbD_of_ge _ b hb]

/-- Two values that agree on every lane are equal. -/
theorem eq_of_elem_eq {es k : Nat} (hes : 0 < es) {u v : BitVec (es * k)}
    (h : ∀ e, e < k → elem es u e = elem es v e) : u = v := by
  apply BitVec.eq_of_getLsbD_eq
  intro b hb
  have he : b / es < k := Nat.div_lt_of_lt_mul hb
  have hm : b % es < es := Nat.mod_lt _ hes
  have := congrArg (fun w => w.getLsbD (b % es)) (h (b / es) he)
  simp only [elem, BitVec.getLsbD_extractLsb', hm, decide_true, Bool.true_and] at this
  have hb' : b / es * es + b % es = b := by rw [Nat.mul_comm]; exact Nat.div_add_mod b es
  rwa [hb'] at this

end Sys2Proof.Machine
end

