-- ==== Sys2Proof/Laws/State.lean ====
section
/-! SUPPORT. One lemma for each field and each update of a state, and the reads over each update, so that
no later proof unfolds a record update. -/

namespace Sys2Proof.Machine

@[simp] theorem State.setPc_x (s : State) (t : Word) : (s.setPc t).x = s.x := rfl
@[simp] theorem State.setPc_sp (s : State) (t : Word) : (s.setPc t).sp = s.sp := rfl
@[simp] theorem State.setPc_v (s : State) (t : Word) : (s.setPc t).v = s.v := rfl
@[simp] theorem State.setPc_pc (s : State) (t : Word) : (s.setPc t).pc = t := rfl
@[simp] theorem State.setPc_flags (s : State) (t : Word) : (s.setPc t).flags = s.flags := rfl
@[simp] theorem State.setPc_mem (s : State) (t : Word) : (s.setPc t).mem = s.mem := rfl
@[simp] theorem State.setPc_err (s : State) (t : Word) : (s.setPc t).err = s.err := rfl

@[simp] theorem State.advance_x (s : State)  : (s.advance).x = s.x := rfl
@[simp] theorem State.advance_sp (s : State)  : (s.advance).sp = s.sp := rfl
@[simp] theorem State.advance_v (s : State)  : (s.advance).v = s.v := rfl
@[simp] theorem State.advance_pc (s : State)  : (s.advance).pc = s.pc + 4#64 := rfl
@[simp] theorem State.advance_flags (s : State)  : (s.advance).flags = s.flags := rfl
@[simp] theorem State.advance_mem (s : State)  : (s.advance).mem = s.mem := rfl
@[simp] theorem State.advance_err (s : State)  : (s.advance).err = s.err := rfl

@[simp] theorem State.setFlags_x (s : State) (f : Flags) : (s.setFlags f).x = s.x := rfl
@[simp] theorem State.setFlags_sp (s : State) (f : Flags) : (s.setFlags f).sp = s.sp := rfl
@[simp] theorem State.setFlags_v (s : State) (f : Flags) : (s.setFlags f).v = s.v := rfl
@[simp] theorem State.setFlags_pc (s : State) (f : Flags) : (s.setFlags f).pc = s.pc := rfl
@[simp] theorem State.setFlags_flags (s : State) (f : Flags) : (s.setFlags f).flags = f := rfl
@[simp] theorem State.setFlags_mem (s : State) (f : Flags) : (s.setFlags f).mem = s.mem := rfl
@[simp] theorem State.setFlags_err (s : State) (f : Flags) : (s.setFlags f).err = s.err := rfl

@[simp] theorem State.writeV_x (s : State) (i : RegIdx) (w : VWord) : (s.writeV i w).x = s.x := rfl
@[simp] theorem State.writeV_sp (s : State) (i : RegIdx) (w : VWord) : (s.writeV i w).sp = s.sp := rfl
@[simp] theorem State.writeV_v (s : State) (i : RegIdx) (w : VWord) : (s.writeV i w).v = s.v.set i.toNat w i.isLt := rfl
@[simp] theorem State.writeV_pc (s : State) (i : RegIdx) (w : VWord) : (s.writeV i w).pc = s.pc := rfl
@[simp] theorem State.writeV_flags (s : State) (i : RegIdx) (w : VWord) : (s.writeV i w).flags = s.flags := rfl
@[simp] theorem State.writeV_mem (s : State) (i : RegIdx) (w : VWord) : (s.writeV i w).mem = s.mem := rfl
@[simp] theorem State.writeV_err (s : State) (i : RegIdx) (w : VWord) : (s.writeV i w).err = s.err := rfl

@[simp] theorem State.setVpart_x (s : State) {w : Nat} (i : RegIdx) (u : BitVec w) (h : w ≤ 128) : (s.setVpart i u h).x = s.x := rfl
@[simp] theorem State.setVpart_sp (s : State) {w : Nat} (i : RegIdx) (u : BitVec w) (h : w ≤ 128) : (s.setVpart i u h).sp = s.sp := rfl
@[simp] theorem State.setVpart_pc (s : State) {w : Nat} (i : RegIdx) (u : BitVec w) (h : w ≤ 128) : (s.setVpart i u h).pc = s.pc := rfl
@[simp] theorem State.setVpart_flags (s : State) {w : Nat} (i : RegIdx) (u : BitVec w) (h : w ≤ 128) : (s.setVpart i u h).flags = s.flags := rfl
@[simp] theorem State.setVpart_mem (s : State) {w : Nat} (i : RegIdx) (u : BitVec w) (h : w ≤ 128) : (s.setVpart i u h).mem = s.mem := rfl
@[simp] theorem State.setVpart_err (s : State) {w : Nat} (i : RegIdx) (u : BitVec w) (h : w ≤ 128) : (s.setVpart i u h).err = s.err := rfl

@[simp] theorem State.writeByte_x (s : State) (a : Word) (b : Byte) : (s.writeByte a b).x = s.x := rfl
@[simp] theorem State.writeByte_sp (s : State) (a : Word) (b : Byte) : (s.writeByte a b).sp = s.sp := rfl
@[simp] theorem State.writeByte_v (s : State) (a : Word) (b : Byte) : (s.writeByte a b).v = s.v := rfl
@[simp] theorem State.writeByte_pc (s : State) (a : Word) (b : Byte) : (s.writeByte a b).pc = s.pc := rfl
@[simp] theorem State.writeByte_flags (s : State) (a : Word) (b : Byte) : (s.writeByte a b).flags = s.flags := rfl
@[simp] theorem State.writeByte_mem (s : State) (a : Word) (b : Byte) : (s.writeByte a b).mem = Memory.write s.mem a.toNat b := rfl
@[simp] theorem State.writeByte_err (s : State) (a : Word) (b : Byte) : (s.writeByte a b).err = s.err := rfl

@[simp] theorem State.faulted_x (s : State) (site : FaultSite) : (s.faulted site).x = s.x := rfl
@[simp] theorem State.faulted_sp (s : State) (site : FaultSite) : (s.faulted site).sp = s.sp := rfl
@[simp] theorem State.faulted_v (s : State) (site : FaultSite) : (s.faulted site).v = s.v := rfl
@[simp] theorem State.faulted_pc (s : State) (site : FaultSite) : (s.faulted site).pc = s.pc := rfl
@[simp] theorem State.faulted_flags (s : State) (site : FaultSite) : (s.faulted site).flags = s.flags := rfl
@[simp] theorem State.faulted_mem (s : State) (site : FaultSite) : (s.faulted site).mem = s.mem := rfl
@[simp] theorem State.faulted_err (s : State) (site : FaultSite) : (s.faulted site).err = errOf site := rfl

@[simp] theorem State.writeX_sp (s : State) (i : RegIdx) (w : Word) : (s.writeX i w).sp = s.sp := by
  unfold State.writeX; split <;> rfl
@[simp] theorem State.writeX_v (s : State) (i : RegIdx) (w : Word) : (s.writeX i w).v = s.v := by
  unfold State.writeX; split <;> rfl
@[simp] theorem State.writeX_pc (s : State) (i : RegIdx) (w : Word) : (s.writeX i w).pc = s.pc := by
  unfold State.writeX; split <;> rfl
@[simp] theorem State.writeX_flags (s : State) (i : RegIdx) (w : Word) : (s.writeX i w).flags = s.flags := by
  unfold State.writeX; split <;> rfl
@[simp] theorem State.writeX_mem (s : State) (i : RegIdx) (w : Word) : (s.writeX i w).mem = s.mem := by
  unfold State.writeX; split <;> rfl
@[simp] theorem State.writeX_err (s : State) (i : RegIdx) (w : Word) : (s.writeX i w).err = s.err := by
  unfold State.writeX; split <;> rfl

@[simp] theorem State.setGpr_sp (s : State) {w : Nat} (i : RegIdx) (u : BitVec w) (h : w ≤ 64) : (s.setGpr i u h).sp = s.sp := by
  simp [State.setGpr]
@[simp] theorem State.setGpr_v (s : State) {w : Nat} (i : RegIdx) (u : BitVec w) (h : w ≤ 64) : (s.setGpr i u h).v = s.v := by
  simp [State.setGpr]
@[simp] theorem State.setGpr_pc (s : State) {w : Nat} (i : RegIdx) (u : BitVec w) (h : w ≤ 64) : (s.setGpr i u h).pc = s.pc := by
  simp [State.setGpr]
@[simp] theorem State.setGpr_flags (s : State) {w : Nat} (i : RegIdx) (u : BitVec w) (h : w ≤ 64) : (s.setGpr i u h).flags = s.flags := by
  simp [State.setGpr]
@[simp] theorem State.setGpr_mem (s : State) {w : Nat} (i : RegIdx) (u : BitVec w) (h : w ≤ 64) : (s.setGpr i u h).mem = s.mem := by
  simp [State.setGpr]
@[simp] theorem State.setGpr_err (s : State) {w : Nat} (i : RegIdx) (u : BitVec w) (h : w ≤ 64) : (s.setGpr i u h).err = s.err := by
  simp [State.setGpr]

@[simp] theorem State.writeXSP_v (s : State) (i : RegIdx) (w : Word) : (s.writeXSP i w).v = s.v := by
  unfold State.writeXSP; split <;> simp
@[simp] theorem State.writeXSP_pc (s : State) (i : RegIdx) (w : Word) : (s.writeXSP i w).pc = s.pc := by
  unfold State.writeXSP; split <;> simp
@[simp] theorem State.writeXSP_flags (s : State) (i : RegIdx) (w : Word) : (s.writeXSP i w).flags = s.flags := by
  unfold State.writeXSP; split <;> simp
@[simp] theorem State.writeXSP_mem (s : State) (i : RegIdx) (w : Word) : (s.writeXSP i w).mem = s.mem := by
  unfold State.writeXSP; split <;> simp
@[simp] theorem State.writeXSP_err (s : State) (i : RegIdx) (w : Word) : (s.writeXSP i w).err = s.err := by
  unfold State.writeXSP; split <;> simp

@[simp] theorem State.setGprSp_v (s : State) {w : Nat} (i : RegIdx) (u : BitVec w) (h : w ≤ 64) : (s.setGprSp i u h).v = s.v := by
  simp [State.setGprSp]
@[simp] theorem State.setGprSp_pc (s : State) {w : Nat} (i : RegIdx) (u : BitVec w) (h : w ≤ 64) : (s.setGprSp i u h).pc = s.pc := by
  simp [State.setGprSp]
@[simp] theorem State.setGprSp_flags (s : State) {w : Nat} (i : RegIdx) (u : BitVec w) (h : w ≤ 64) : (s.setGprSp i u h).flags = s.flags := by
  simp [State.setGprSp]
@[simp] theorem State.setGprSp_mem (s : State) {w : Nat} (i : RegIdx) (u : BitVec w) (h : w ≤ 64) : (s.setGprSp i u h).mem = s.mem := by
  simp [State.setGprSp]
@[simp] theorem State.setGprSp_err (s : State) {w : Nat} (i : RegIdx) (u : BitVec w) (h : w ≤ 64) : (s.setGprSp i u h).err = s.err := by
  simp [State.setGprSp]

@[simp] theorem State.storeBytes_x (s : State) (a : Word) (g : Nat → Byte) (n : Nat) : (s.storeBytes a g n).x = s.x := by
  induction n with
  | zero => rfl
  | succ n ih => simp [State.storeBytes, ih]
@[simp] theorem State.storeBytes_sp (s : State) (a : Word) (g : Nat → Byte) (n : Nat) : (s.storeBytes a g n).sp = s.sp := by
  induction n with
  | zero => rfl
  | succ n ih => simp [State.storeBytes, ih]
@[simp] theorem State.storeBytes_v (s : State) (a : Word) (g : Nat → Byte) (n : Nat) : (s.storeBytes a g n).v = s.v := by
  induction n with
  | zero => rfl
  | succ n ih => simp [State.storeBytes, ih]
@[simp] theorem State.storeBytes_pc (s : State) (a : Word) (g : Nat → Byte) (n : Nat) : (s.storeBytes a g n).pc = s.pc := by
  induction n with
  | zero => rfl
  | succ n ih => simp [State.storeBytes, ih]
@[simp] theorem State.storeBytes_flags (s : State) (a : Word) (g : Nat → Byte) (n : Nat) : (s.storeBytes a g n).flags = s.flags := by
  induction n with
  | zero => rfl
  | succ n ih => simp [State.storeBytes, ih]
@[simp] theorem State.storeBytes_err (s : State) (a : Word) (g : Nat → Byte) (n : Nat) : (s.storeBytes a g n).err = s.err := by
  induction n with
  | zero => rfl
  | succ n ih => simp [State.storeBytes, ih]

@[simp] theorem State.memWrite_x (s : State) (a : Word) (n : Nat) (u : BitVec (8 * n)) : (s.memWrite a n u).x = s.x := by
  simp [State.memWrite]
@[simp] theorem State.memWrite_sp (s : State) (a : Word) (n : Nat) (u : BitVec (8 * n)) : (s.memWrite a n u).sp = s.sp := by
  simp [State.memWrite]
@[simp] theorem State.memWrite_v (s : State) (a : Word) (n : Nat) (u : BitVec (8 * n)) : (s.memWrite a n u).v = s.v := by
  simp [State.memWrite]
@[simp] theorem State.memWrite_pc (s : State) (a : Word) (n : Nat) (u : BitVec (8 * n)) : (s.memWrite a n u).pc = s.pc := by
  simp [State.memWrite]
@[simp] theorem State.memWrite_flags (s : State) (a : Word) (n : Nat) (u : BitVec (8 * n)) : (s.memWrite a n u).flags = s.flags := by
  simp [State.memWrite]
@[simp] theorem State.memWrite_err (s : State) (a : Word) (n : Nat) (u : BitVec (8 * n)) : (s.memWrite a n u).err = s.err := by
  simp [State.memWrite]

@[simp] theorem State.loadBytes_x (s : State) (a : Word) (bs : List Byte) : (s.loadBytes a bs).x = s.x := by
  induction bs generalizing s a with
  | nil => rfl
  | cons b bs ih => simp [State.loadBytes, ih]
@[simp] theorem State.loadBytes_sp (s : State) (a : Word) (bs : List Byte) : (s.loadBytes a bs).sp = s.sp := by
  induction bs generalizing s a with
  | nil => rfl
  | cons b bs ih => simp [State.loadBytes, ih]
@[simp] theorem State.loadBytes_v (s : State) (a : Word) (bs : List Byte) : (s.loadBytes a bs).v = s.v := by
  induction bs generalizing s a with
  | nil => rfl
  | cons b bs ih => simp [State.loadBytes, ih]
@[simp] theorem State.loadBytes_pc (s : State) (a : Word) (bs : List Byte) : (s.loadBytes a bs).pc = s.pc := by
  induction bs generalizing s a with
  | nil => rfl
  | cons b bs ih => simp [State.loadBytes, ih]
@[simp] theorem State.loadBytes_flags (s : State) (a : Word) (bs : List Byte) : (s.loadBytes a bs).flags = s.flags := by
  induction bs generalizing s a with
  | nil => rfl
  | cons b bs ih => simp [State.loadBytes, ih]
@[simp] theorem State.loadBytes_err (s : State) (a : Word) (bs : List Byte) : (s.loadBytes a bs).err = s.err := by
  induction bs generalizing s a with
  | nil => rfl
  | cons b bs ih => simp [State.loadBytes, ih]

/-! ## Reads depend on one field -/

theorem State.readX_congr {s t : State} (h : t.x = s.x) (i : RegIdx) : t.readX i = s.readX i := by
  unfold State.readX; simp [h]

theorem State.readXSP_congr {s t : State} (h : t.x = s.x) (hsp : t.sp = s.sp) (i : RegIdx) :
    t.readXSP i = s.readXSP i := by
  unfold State.readXSP; rw [State.readX_congr h, hsp]

theorem State.readV_congr {s t : State} (h : t.v = s.v) (i : RegIdx) : t.readV i = s.readV i := by
  unfold State.readV; simp [h]

theorem State.readByte_congr {s t : State} (h : t.mem = s.mem) (a : Word) : t.readByte a = s.readByte a := by
  unfold State.readByte; rw [h]

theorem State.memRead_congr {s t : State} (h : t.mem = s.mem) (a : Word) (n : Nat) :
    t.memRead a n = s.memRead a n := by
  unfold State.memRead; simp only [State.readByte_congr h]

@[simp] theorem State.readX_setPc (s : State) (t : Word) (r : RegIdx) : (s.setPc t).readX r = s.readX r :=
  State.readX_congr (by simp) r
@[simp] theorem State.readXSP_setPc (s : State) (t : Word) (r : RegIdx) : (s.setPc t).readXSP r = s.readXSP r :=
  State.readXSP_congr (by simp) (by simp) r
@[simp] theorem State.readX_advance (s : State)  (r : RegIdx) : (s.advance).readX r = s.readX r :=
  State.readX_congr (by simp) r
@[simp] theorem State.readXSP_advance (s : State)  (r : RegIdx) : (s.advance).readXSP r = s.readXSP r :=
  State.readXSP_congr (by simp) (by simp) r
@[simp] theorem State.readX_setFlags (s : State) (f : Flags) (r : RegIdx) : (s.setFlags f).readX r = s.readX r :=
  State.readX_congr (by simp) r
@[simp] theorem State.readXSP_setFlags (s : State) (f : Flags) (r : RegIdx) : (s.setFlags f).readXSP r = s.readXSP r :=
  State.readXSP_congr (by simp) (by simp) r
@[simp] theorem State.readX_writeV (s : State) (i : RegIdx) (w : VWord) (r : RegIdx) : (s.writeV i w).readX r = s.readX r :=
  State.readX_congr (by simp) r
@[simp] theorem State.readXSP_writeV (s : State) (i : RegIdx) (w : VWord) (r : RegIdx) : (s.writeV i w).readXSP r = s.readXSP r :=
  State.readXSP_congr (by simp) (by simp) r
@[simp] theorem State.readX_setVpart (s : State) {w : Nat} (i : RegIdx) (u : BitVec w) (h : w ≤ 128) (r : RegIdx) : (s.setVpart i u h).readX r = s.readX r :=
  State.readX_congr (by simp) r
@[simp] theorem State.readXSP_setVpart (s : State) {w : Nat} (i : RegIdx) (u : BitVec w) (h : w ≤ 128) (r : RegIdx) : (s.setVpart i u h).readXSP r = s.readXSP r :=
  State.readXSP_congr (by simp) (by simp) r
@[simp] theorem State.readX_writeByte (s : State) (a : Word) (b : Byte) (r : RegIdx) : (s.writeByte a b).readX r = s.readX r :=
  State.readX_congr (by simp) r
@[simp] theorem State.readXSP_writeByte (s : State) (a : Word) (b : Byte) (r : RegIdx) : (s.writeByte a b).readXSP r = s.readXSP r :=
  State.readXSP_congr (by simp) (by simp) r
@[simp] theorem State.readX_faulted (s : State) (site : FaultSite) (r : RegIdx) : (s.faulted site).readX r = s.readX r :=
  State.readX_congr (by simp) r
@[simp] theorem State.readXSP_faulted (s : State) (site : FaultSite) (r : RegIdx) : (s.faulted site).readXSP r = s.readXSP r :=
  State.readXSP_congr (by simp) (by simp) r
@[simp] theorem State.readX_memWrite (s : State) (a : Word) (n : Nat) (u : BitVec (8 * n)) (r : RegIdx) : (s.memWrite a n u).readX r = s.readX r :=
  State.readX_congr (by simp) r
@[simp] theorem State.readXSP_memWrite (s : State) (a : Word) (n : Nat) (u : BitVec (8 * n)) (r : RegIdx) : (s.memWrite a n u).readXSP r = s.readXSP r :=
  State.readXSP_congr (by simp) (by simp) r
@[simp] theorem State.readV_setPc (s : State) (t : Word) (r : RegIdx) : (s.setPc t).readV r = s.readV r :=
  State.readV_congr (by simp) r
@[simp] theorem State.readByte_setPc (s : State) (t : Word) (addr : Word) : (s.setPc t).readByte addr = s.readByte addr :=
  State.readByte_congr (by simp) addr
@[simp] theorem State.memRead_setPc (s : State) (t : Word) (addr : Word) (len : Nat) : (s.setPc t).memRead addr len = s.memRead addr len :=
  State.memRead_congr (by simp) addr len
@[simp] theorem State.readV_advance (s : State)  (r : RegIdx) : (s.advance).readV r = s.readV r :=
  State.readV_congr (by simp) r
@[simp] theorem State.readByte_advance (s : State)  (addr : Word) : (s.advance).readByte addr = s.readByte addr :=
  State.readByte_congr (by simp) addr
@[simp] theorem State.memRead_advance (s : State)  (addr : Word) (len : Nat) : (s.advance).memRead addr len = s.memRead addr len :=
  State.memRead_congr (by simp) addr len
@[simp] theorem State.readV_setFlags (s : State) (f : Flags) (r : RegIdx) : (s.setFlags f).readV r = s.readV r :=
  State.readV_congr (by simp) r
@[simp] theorem State.readByte_setFlags (s : State) (f : Flags) (addr : Word) : (s.setFlags f).readByte addr = s.readByte addr :=
  State.readByte_congr (by simp) addr
@[simp] theorem State.memRead_setFlags (s : State) (f : Flags) (addr : Word) (len : Nat) : (s.setFlags f).memRead addr len = s.memRead addr len :=
  State.memRead_congr (by simp) addr len
@[simp] theorem State.readByte_writeV (s : State) (i : RegIdx) (w : VWord) (addr : Word) : (s.writeV i w).readByte addr = s.readByte addr :=
  State.readByte_congr (by simp) addr
@[simp] theorem State.memRead_writeV (s : State) (i : RegIdx) (w : VWord) (addr : Word) (len : Nat) : (s.writeV i w).memRead addr len = s.memRead addr len :=
  State.memRead_congr (by simp) addr len
@[simp] theorem State.readByte_setVpart (s : State) {w : Nat} (i : RegIdx) (u : BitVec w) (h : w ≤ 128) (addr : Word) : (s.setVpart i u h).readByte addr = s.readByte addr :=
  State.readByte_congr (by simp) addr
@[simp] theorem State.memRead_setVpart (s : State) {w : Nat} (i : RegIdx) (u : BitVec w) (h : w ≤ 128) (addr : Word) (len : Nat) : (s.setVpart i u h).memRead addr len = s.memRead addr len :=
  State.memRead_congr (by simp) addr len
@[simp] theorem State.readV_writeByte (s : State) (a : Word) (b : Byte) (r : RegIdx) : (s.writeByte a b).readV r = s.readV r :=
  State.readV_congr (by simp) r
@[simp] theorem State.readV_faulted (s : State) (site : FaultSite) (r : RegIdx) : (s.faulted site).readV r = s.readV r :=
  State.readV_congr (by simp) r
@[simp] theorem State.readByte_faulted (s : State) (site : FaultSite) (addr : Word) : (s.faulted site).readByte addr = s.readByte addr :=
  State.readByte_congr (by simp) addr
@[simp] theorem State.memRead_faulted (s : State) (site : FaultSite) (addr : Word) (len : Nat) : (s.faulted site).memRead addr len = s.memRead addr len :=
  State.memRead_congr (by simp) addr len
@[simp] theorem State.readV_memWrite (s : State) (a : Word) (n : Nat) (u : BitVec (8 * n)) (r : RegIdx) : (s.memWrite a n u).readV r = s.readV r :=
  State.readV_congr (by simp) r
@[simp] theorem State.readV_writeX (s : State) (i : RegIdx) (w : Word) (r : RegIdx) : (s.writeX i w).readV r = s.readV r :=
  State.readV_congr (by simp) r
@[simp] theorem State.readByte_writeX (s : State) (i : RegIdx) (w : Word) (addr : Word) : (s.writeX i w).readByte addr = s.readByte addr :=
  State.readByte_congr (by simp) addr
@[simp] theorem State.memRead_writeX (s : State) (i : RegIdx) (w : Word) (addr : Word) (len : Nat) : (s.writeX i w).memRead addr len = s.memRead addr len :=
  State.memRead_congr (by simp) addr len
@[simp] theorem State.readV_setGpr (s : State) {w : Nat} (i : RegIdx) (u : BitVec w) (h : w ≤ 64) (r : RegIdx) : (s.setGpr i u h).readV r = s.readV r :=
  State.readV_congr (by simp) r
@[simp] theorem State.readByte_setGpr (s : State) {w : Nat} (i : RegIdx) (u : BitVec w) (h : w ≤ 64) (addr : Word) : (s.setGpr i u h).readByte addr = s.readByte addr :=
  State.readByte_congr (by simp) addr
@[simp] theorem State.memRead_setGpr (s : State) {w : Nat} (i : RegIdx) (u : BitVec w) (h : w ≤ 64) (addr : Word) (len : Nat) : (s.setGpr i u h).memRead addr len = s.memRead addr len :=
  State.memRead_congr (by simp) addr len
@[simp] theorem State.readV_writeXSP (s : State) (i : RegIdx) (w : Word) (r : RegIdx) : (s.writeXSP i w).readV r = s.readV r :=
  State.readV_congr (by simp) r
@[simp] theorem State.readByte_writeXSP (s : State) (i : RegIdx) (w : Word) (addr : Word) : (s.writeXSP i w).readByte addr = s.readByte addr :=
  State.readByte_congr (by simp) addr
@[simp] theorem State.memRead_writeXSP (s : State) (i : RegIdx) (w : Word) (addr : Word) (len : Nat) : (s.writeXSP i w).memRead addr len = s.memRead addr len :=
  State.memRead_congr (by simp) addr len
@[simp] theorem State.readV_setGprSp (s : State) {w : Nat} (i : RegIdx) (u : BitVec w) (h : w ≤ 64) (r : RegIdx) : (s.setGprSp i u h).readV r = s.readV r :=
  State.readV_congr (by simp) r
@[simp] theorem State.readByte_setGprSp (s : State) {w : Nat} (i : RegIdx) (u : BitVec w) (h : w ≤ 64) (addr : Word) : (s.setGprSp i u h).readByte addr = s.readByte addr :=
  State.readByte_congr (by simp) addr
@[simp] theorem State.memRead_setGprSp (s : State) {w : Nat} (i : RegIdx) (u : BitVec w) (h : w ≤ 64) (addr : Word) (len : Nat) : (s.setGprSp i u h).memRead addr len = s.memRead addr len :=
  State.memRead_congr (by simp) addr len

end Sys2Proof.Machine
end

