-- ==== Sys2Proof/Laws/Memory.lean ====
section
/-! SUPPORT. The laws of the memory list: a read after a write, and the canonical form, which every memory
operation keeps (spec/20_memory.md R71 to R73). -/

namespace Sys2Proof.Machine

/-! ## One byte -/

theorem Memory.read_below {m : List Host.Cell} {lo a : Nat} (h : Memory.wfFrom lo m = true) (ha : a < lo) :
    Memory.read m a = Config.unlistedByte := by
  induction m generalizing lo with
  | nil => rfl
  | cons c rest ih =>
    obtain ⟨k, b⟩ := c
    simp only [Memory.wfFrom, Bool.and_eq_true, decide_eq_true_eq] at h
    have hk : ¬ k = a := by omega
    simp only [Memory.read, hk, if_false]
    exact ih h.2 (by omega)

theorem Memory.read_write_other (m : List Host.Cell) {a r : Nat} (h : r ≠ a) (b : Byte) :
    Memory.read (Memory.write m a b) r = Memory.read m r := by
  have h' : a ≠ r := fun e => h e.symm
  induction m with
  | nil => unfold Memory.write; split <;> simp [Memory.read, h']
  | cons c rest ih =>
    obtain ⟨k, c⟩ := c
    unfold Memory.write
    split
    · split <;> simp [Memory.read, h']
    · split
      · subst_vars; split <;> simp [Memory.read, h']
      · simp [Memory.read, ih]

theorem Memory.read_write_same {m : List Host.Cell} {lo : Nat} (h : Memory.wfFrom lo m = true) (a : Nat) (b : Byte) :
    Memory.read (Memory.write m a b) a = b := by
  induction m generalizing lo with
  | nil => unfold Memory.write; split <;> simp_all [Memory.read]
  | cons c rest ih =>
    obtain ⟨k, c⟩ := c
    simp only [Memory.wfFrom, Bool.and_eq_true, decide_eq_true_eq] at h
    unfold Memory.write
    split
    · have hk : ¬ k = a := by omega
      split
      · rename_i hb
        simp only [Memory.read, hk, if_false, hb]
        exact Memory.read_below h.2 (by omega)
      · simp [Memory.read]
    · split
      · subst_vars
        split
        · rename_i hb
          rw [hb]
          exact Memory.read_below h.2 (by omega)
        · simp [Memory.read]
      · have hk : ¬ k = a := by omega
        simp only [Memory.read, hk, if_false]
        exact ih h.2

theorem Memory.wfFrom_mono {m : List Host.Cell} {lo lo' : Nat} (h : Memory.wfFrom lo m = true) (hl : lo' ≤ lo) :
    Memory.wfFrom lo' m = true := by
  cases m with
  | nil => rfl
  | cons c rest =>
    obtain ⟨k, c⟩ := c
    simp only [Memory.wfFrom, Bool.and_eq_true, decide_eq_true_eq] at h ⊢
    exact ⟨⟨⟨by omega, h.1.1.2⟩, h.1.2⟩, h.2⟩

theorem Memory.wfFrom_write {m : List Host.Cell} {lo a : Nat} (h : Memory.wfFrom lo m = true) (hlo : lo ≤ a)
    (ha : a < 2 ^ 64) (b : Byte) : Memory.wfFrom lo (Memory.write m a b) = true := by
  induction m generalizing lo with
  | nil => unfold Memory.write; split <;> simp_all [Memory.wfFrom]
  | cons c rest ih =>
    obtain ⟨k, c⟩ := c
    have h0 := h
    simp only [Memory.wfFrom, Bool.and_eq_true, decide_eq_true_eq] at h
    unfold Memory.write
    split
    · split
      · exact h0
      · rename_i hb
        simp only [Memory.wfFrom, Bool.and_eq_true, decide_eq_true_eq, bne_iff_ne]
        refine ⟨⟨⟨hlo, ha⟩, hb⟩, ⟨⟨⟨by omega, h.1.1.2⟩, ?_⟩, h.2⟩⟩
        simpa using h.1.2
    · split
      · split
        · exact Memory.wfFrom_mono h.2 (by omega)
        · rename_i hb
          simp only [Memory.wfFrom, Bool.and_eq_true, decide_eq_true_eq, bne_iff_ne]
          refine ⟨⟨⟨hlo, ha⟩, hb⟩, ?_⟩
          subst_vars
          exact h.2
      · simp only [Memory.wfFrom, Bool.and_eq_true, decide_eq_true_eq]
        exact ⟨h.1, ih h.2 (by omega)⟩

/-- A write of one byte keeps the canonical form. -/
theorem State.wf_writeByte {s : State} (h : Memory.wf s.mem = true) (a : Word) (b : Byte) :
    Memory.wf (s.writeByte a b).mem = true :=
  Memory.wfFrom_write h (Nat.zero_le _) a.isLt b

theorem State.readByte_writeByte_same {s : State} (h : Memory.wf s.mem = true) (a : Word) (b : Byte) :
    (s.writeByte a b).readByte a = b :=
  Memory.read_write_same h a.toNat b

theorem State.readByte_writeByte_other (s : State) {a r : Word} (h : r ≠ a) (b : Byte) :
    (s.writeByte a b).readByte r = s.readByte r :=
  Memory.read_write_other s.mem (fun e => h (BitVec.eq_of_toNat_eq e)) b

/-! ## Several bytes -/

theorem State.wf_storeBytes {s : State} (h : Memory.wf s.mem = true) (a : Word) (g : Nat → Byte) (n : Nat) :
    Memory.wf (s.storeBytes a g n).mem = true := by
  induction n with
  | zero => exact h
  | succ n ih => exact State.wf_writeByte ih _ _

/-- `MemWrite` keeps the canonical form. -/
theorem State.wf_memWrite {s : State} (h : Memory.wf s.mem = true) (a : Word) (n : Nat) (u : BitVec (8 * n)) :
    Memory.wf (s.memWrite a n u).mem = true :=
  State.wf_storeBytes h a _ n

/-- Loading bytes keeps the canonical form. -/
theorem State.wf_loadBytes {s : State} (h : Memory.wf s.mem = true) (a : Word) (bs : List Byte) :
    Memory.wf (s.loadBytes a bs).mem = true := by
  induction bs generalizing s a with
  | nil => exact h
  | cons b bs ih => exact ih (State.wf_writeByte h a b) _

/-- The state after reset has memory in canonical form. -/
theorem State.wf_reset : Memory.wf State.reset.mem = true := rfl

/-- A byte the store does not reach reads as before. -/
theorem State.readByte_storeBytes_other (s : State) (a : Word) (g : Nat → Byte) (n : Nat) (r : Word)
    (h : ∀ k, k < n → r ≠ a + BitVec.ofNat 64 k) : (s.storeBytes a g n).readByte r = s.readByte r := by
  induction n with
  | zero => rfl
  | succ n ih =>
    rw [State.storeBytes, State.readByte_writeByte_other _ (h n (by omega))]
    exact ih (fun k hk => h k (by omega))

/-- A byte the store reaches reads the byte stored there last. -/
theorem State.readByte_storeBytes_at {s : State} (hw : Memory.wf s.mem = true) (a : Word) (g : Nat → Byte) {n k : Nat}
    (hn : n ≤ 2 ^ 64) (hk : k < n) : (s.storeBytes a g n).readByte (a + BitVec.ofNat 64 k) = g k := by
  induction n with
  | zero => omega
  | succ n ih =>
    rw [State.storeBytes]
    by_cases e : k = n
    · subst e
      exact State.readByte_writeByte_same (State.wf_storeBytes hw a g k) _ _
    · rw [State.readByte_writeByte_other _ ?_]
      · exact ih (by omega) (by omega)
      · intro he
        have := congrArg BitVec.toNat ((BitVec.add_right_inj a).mp he)
        simp only [BitVec.toNat_ofNat] at this
        rw [Nat.mod_eq_of_lt (by omega), Nat.mod_eq_of_lt (by omega)] at this
        exact e this

end Sys2Proof.Machine
end

