-- ==== Sys2Proof/Laws/Registers.lean ====
section
/-! SUPPORT. What reading a register after writing one gives (spec/10_state.md R33, R34, R44, R51). -/

namespace Sys2Proof.Machine

theorem regIdx_lt_31 {i : RegIdx} (h : i ≠ 31#5) : i.toNat < 31 := by
  have h1 := i.isLt
  have h2 : i.toNat ≠ 31 := fun e => h (BitVec.eq_of_toNat_eq (by simpa using e))
  omega

@[simp] theorem State.readX_zr (s : State) : s.readX 31#5 = 0#64 := by simp [State.readX]

@[simp] theorem State.writeX_zr (s : State) (w : Word) : s.writeX 31#5 w = s := by simp [State.writeX]

theorem State.readX_writeX_same (s : State) {i : RegIdx} (h : i ≠ 31#5) (w : Word) :
    (s.writeX i w).readX i = w := by
  simp [State.readX, State.writeX, regIdx_lt_31 h]

theorem State.readX_writeX_other (s : State) {i r : RegIdx} (h : r ≠ i) (w : Word) :
    (s.writeX i w).readX r = s.readX r := by
  have hne : i.toNat ≠ r.toNat := fun e => h (BitVec.eq_of_toNat_eq e).symm
  unfold State.writeX State.readX
  split
  · split
    · simp [hne]
    · rfl
  · rfl

theorem State.readXSP_of_ne (s : State) {i : RegIdx} (h : i ≠ 31#5) : s.readXSP i = s.readX i := by
  simp [State.readXSP, h]

@[simp] theorem State.readXSP_sp (s : State) : s.readXSP 31#5 = s.sp := by simp [State.readXSP]

theorem State.writeXSP_of_ne (s : State) {i : RegIdx} (h : i ≠ 31#5) (w : Word) :
    s.writeXSP i w = s.writeX i w := by
  simp [State.writeXSP, h]

theorem State.writeXSP_sp (s : State) (w : Word) : s.writeXSP 31#5 w = { s with sp := w } := by
  simp [State.writeXSP]

theorem State.readX_writeXSP_other (s : State) {i r : RegIdx} (h : r ≠ i) (w : Word) :
    (s.writeXSP i w).readX r = s.readX r := by
  unfold State.writeXSP
  split
  · exact State.readX_congr rfl r
  · exact State.readX_writeX_other s h w

/-- A write through the stack-pointer view changes SP only for index 31. -/
theorem State.sp_writeXSP (s : State) (i : RegIdx) (w : Word) :
    (s.writeXSP i w).sp = if i = 31#5 then w else s.sp := by
  unfold State.writeXSP; split <;> simp

theorem State.readV_writeV_same (s : State) (i : RegIdx) (w : VWord) : (s.writeV i w).readV i = w := by
  simp [State.readV]

theorem State.readV_writeV_other (s : State) {i r : RegIdx} (h : r ≠ i) (w : VWord) :
    (s.writeV i w).readV r = s.readV r := by
  have hne : i.toNat ≠ r.toNat := fun e => h (BitVec.eq_of_toNat_eq e).symm
  simp [State.readV, hne]

end Sys2Proof.Machine
end

