-- ==== Sys2Proof/Laws/Ops.lean ====
section
/-! SUPPORT. For each shared operation, once, everything it can do: if it answers a next state, then one of
these cases holds. Later proofs cite these lemmas and do not unfold the operation. -/

namespace Sys2Proof.Machine

/-- A next state is determined by its outcome. -/
theorem next_inj {s t : State} : (Host.Outcome.next s : Result) = .next t ↔ s = t :=
  ⟨fun h => by cases h; rfl, fun h => by rw [h]⟩

theorem raise_next {site : FaultSite} {s t : State} : raise site s = .next t ↔ t = s.faulted site := by
  rw [raise, next_inj]; exact eq_comm

/-- The error slot a site sets is never empty. -/
theorem errOf_ne_none (site : FaultSite) : errOf site ≠ .none := by
  cases site <;> simp [errOf, faultKind]

theorem checkWriteback_cases {form : AddrForm} {rn rt : RegIdx} {s t : State} {body : Result}
    (h : checkWriteback form rn rt s body = .next t) :
    (isWriteback form = true ∧ writebackConflict rn rt = true ∧ t = s.faulted .ldstWritebackConflict) ∨
    ((isWriteback form && writebackConflict rn rt) = false ∧ body = .next t) := by
  unfold checkWriteback at h
  split at h
  · rename_i hc
    rw [Bool.and_eq_true] at hc
    exact .inl ⟨hc.1, hc.2, raise_next.mp h⟩
  · rename_i hc
    exact .inr ⟨by simpa using hc, h⟩

theorem ldstStep_cases {scale : Nat} {form : AddrForm} {rn : RegIdx} {access : Word → State → State} {s t : State}
    (h : ldstStep scale form rn access s = .next t) :
    (spMisaligned rn s = true ∧ t = s.faulted .spAlign) ∨
    (spMisaligned rn s = false ∧
      t = (writeBack rn (ldstAddress scale form rn s).2 (access (ldstAddress scale form rn s).1 s)).advance) := by
  unfold ldstStep at h
  split at h
  · exact .inl ⟨by assumption, raise_next.mp h⟩
  · rename_i hc
    exact .inr ⟨by simpa using hc, (next_inj.mp h).symm⟩

/-- The alignment test of R78 passes wherever SP is aligned, is not the base, or is not checked. -/
theorem spMisaligned_of_aligned {rn : RegIdx} {s : State} (h : spAligned rn s) : spMisaligned rn s = false := by
  unfold spMisaligned
  by_cases hr : rn = 31#5
  · by_cases hc : Config.spAlignCheck = true
    · have hz : s.sp.extractLsb' 0 4 = 0#4 := BitVec.eq_of_toNat_eq (by simpa using h hc hr)
      simp [hz]
    · simp [hc]
  · simp [hr]

theorem moveWide_cases {sf : BitVec 1} {value : BitVec (datasize sf)} {hw : BitVec 2} {rd : RegIdx} {s t : State}
    (h : moveWide sf value hw rd s = .next t) :
    (moveWideHwReserved sf hw = true ∧ t = s.faulted .moveWideHwReserved) ∨
    (moveWideHwReserved sf hw = false ∧ t = (s.setGpr rd value (datasize_le_64 sf)).advance) := by
  unfold moveWide at h
  split at h
  · exact .inl ⟨by assumption, raise_next.mp h⟩
  · rename_i hc
    exact .inr ⟨by simpa using hc, (next_inj.mp h).symm⟩

theorem checkAddSub_cases {sf : BitVec 1} {shift : BitVec 2} {imm6 : BitVec 6} {s t : State} {body : Result}
    (h : checkAddSub sf shift imm6 s body = .next t) :
    (addSubShiftReserved shift = true ∧ t = s.faulted .addSubShiftReserved) ∨
    (addSubShiftReserved shift = false ∧ amountReserved sf imm6 = true ∧ t = s.faulted .addSubAmountReserved) ∨
    (addSubShiftReserved shift = false ∧ amountReserved sf imm6 = false ∧ body = .next t) := by
  unfold checkAddSub at h
  split at h
  · exact .inl ⟨by assumption, raise_next.mp h⟩
  · rename_i h1
    split at h
    · exact .inr (.inl ⟨by simpa using h1, by assumption, raise_next.mp h⟩)
    · rename_i h2
      exact .inr (.inr ⟨by simpa using h1, by simpa using h2, h⟩)

theorem checkLogical_cases {sf : BitVec 1} {imm6 : BitVec 6} {s t : State} {body : Result}
    (h : checkLogical sf imm6 s body = .next t) :
    (amountReserved sf imm6 = true ∧ t = s.faulted .logicalAmountReserved) ∨
    (amountReserved sf imm6 = false ∧ body = .next t) := by
  unfold checkLogical at h
  split at h
  · exact .inl ⟨by assumption, raise_next.mp h⟩
  · rename_i hc
    exact .inr ⟨by simpa using hc, h⟩

theorem branchIf_cases {taken : Bool} {offset : Word} {s t : State} (h : branchIf taken offset s = .next t) :
    (taken = true ∧ t = s.setPc (s.pc + offset)) ∨ (taken = false ∧ t = s.advance) := by
  have := next_inj.mp h
  cases taken
  · exact .inr ⟨rfl, by simpa using this.symm⟩
  · exact .inl ⟨rfl, by simpa using this.symm⟩

/-! ## The shared meanings of each family -/

theorem vectorLogical_next {f : {w : Nat} → BitVec w → BitVec w → BitVec w → BitVec w} {q : BitVec 1} {rm rn rd : RegIdx}
    {s t : State} (h : vectorLogical f q rm rn rd s = .next t) :
    t = (s.setVpart rd
      (f (s.vpart (vdatasize q) rn (vdatasize_le_128 q)) (s.vpart (vdatasize q) rm (vdatasize_le_128 q))
        (s.vpart (vdatasize q) rd (vdatasize_le_128 q))) (vdatasize_le_128 q)).advance :=
  (next_inj.mp h).symm

theorem addSubImm_next {sub : Bool} {sf sh : BitVec 1} {imm12 : BitVec 12} {rn rd : RegIdx} {s t : State}
    (h : addSubImm sub sf sh imm12 rn rd s = .next t) :
    t = (s.setGprSp rd (addSubImmResult sf sub sh imm12 rn s).1 (datasize_le_64 sf)).advance :=
  (next_inj.mp h).symm

theorem addSubImmFlags_next {sub : Bool} {sf sh : BitVec 1} {imm12 : BitVec 12} {rn rd : RegIdx} {s t : State}
    (h : addSubImmFlags sub sf sh imm12 rn rd s = .next t) :
    t = ((s.setFlags (addSubImmResult sf sub sh imm12 rn s).2).setGpr rd
      (addSubImmResult sf sub sh imm12 rn s).1 (datasize_le_64 sf)).advance :=
  (next_inj.mp h).symm

theorem addSubShifted_cases {sub : Bool} {sf : BitVec 1} {shift : BitVec 2} {rm : RegIdx} {imm6 : BitVec 6}
    {rn rd : RegIdx} {s t : State} (h : addSubShifted sub sf shift rm imm6 rn rd s = .next t) :
    (addSubShiftReserved shift = true ∧ t = s.faulted .addSubShiftReserved) ∨
    (addSubShiftReserved shift = false ∧ amountReserved sf imm6 = true ∧ t = s.faulted .addSubAmountReserved) ∨
    (addSubShiftReserved shift = false ∧ amountReserved sf imm6 = false ∧
      t = (s.setGpr rd (addSubShiftedResult sf sub shift rm imm6 rn s).1 (datasize_le_64 sf)).advance) := by
  rcases checkAddSub_cases h with h | h | ⟨h1, h2, h3⟩
  · exact .inl h
  · exact .inr (.inl h)
  · exact .inr (.inr ⟨h1, h2, (next_inj.mp h3).symm⟩)

theorem addSubShiftedFlags_cases {sub : Bool} {sf : BitVec 1} {shift : BitVec 2} {rm : RegIdx} {imm6 : BitVec 6}
    {rn rd : RegIdx} {s t : State} (h : addSubShiftedFlags sub sf shift rm imm6 rn rd s = .next t) :
    (addSubShiftReserved shift = true ∧ t = s.faulted .addSubShiftReserved) ∨
    (addSubShiftReserved shift = false ∧ amountReserved sf imm6 = true ∧ t = s.faulted .addSubAmountReserved) ∨
    (addSubShiftReserved shift = false ∧ amountReserved sf imm6 = false ∧
      t = ((s.setFlags (addSubShiftedResult sf sub shift rm imm6 rn s).2).setGpr rd
        (addSubShiftedResult sf sub shift rm imm6 rn s).1 (datasize_le_64 sf)).advance) := by
  rcases checkAddSub_cases h with h | h | ⟨h1, h2, h3⟩
  · exact .inl h
  · exact .inr (.inl h)
  · exact .inr (.inr ⟨h1, h2, (next_inj.mp h3).symm⟩)

theorem logicalShifted_cases {f : {w : Nat} → BitVec w → BitVec w → BitVec w} {invert : Bool} {sf : BitVec 1}
    {shift : BitVec 2} {rm : RegIdx} {imm6 : BitVec 6} {rn rd : RegIdx} {s t : State}
    (h : logicalShifted f invert sf shift rm imm6 rn rd s = .next t) :
    (amountReserved sf imm6 = true ∧ t = s.faulted .logicalAmountReserved) ∨
    (amountReserved sf imm6 = false ∧
      t = (s.setGpr rd (f (s.gpr (datasize sf) rn (datasize_le_64 sf)) (logicalOperand sf invert s shift rm imm6))
        (datasize_le_64 sf)).advance) := by
  rcases checkLogical_cases h with h | ⟨h1, h2⟩
  · exact .inl h
  · exact .inr ⟨h1, (next_inj.mp h2).symm⟩

theorem andShiftedFlags_cases {invert : Bool} {sf : BitVec 1} {shift : BitVec 2} {rm : RegIdx} {imm6 : BitVec 6}
    {rn rd : RegIdx} {s t : State} (h : andShiftedFlags invert sf shift rm imm6 rn rd s = .next t) :
    (amountReserved sf imm6 = true ∧ t = s.faulted .logicalAmountReserved) ∨
    (amountReserved sf imm6 = false ∧ ∃ r : BitVec (datasize sf),
      r = andShiftedResult sf invert shift rm imm6 rn s ∧
      t = ((s.setFlags (logicalFlags r)).setGpr rd r (datasize_le_64 sf)).advance) := by
  rcases checkLogical_cases h with h | ⟨h1, h2⟩
  · exact .inl h
  · exact .inr ⟨h1, _, rfl, (next_inj.mp h2).symm⟩

/-! ## Loads and stores -/

/-- `MemWrite` changes memory only. -/
theorem memWrite_eq (s : State) (addr : Word) (n : Nat) (u : BitVec (8 * n)) :
    s.memWrite addr n u = { s with mem := (s.memWrite addr n u).mem } := by
  unfold State.memWrite
  generalize (fun i => elem 8 u i) = g
  clear u
  induction n with
  | zero => rfl
  | succ n ih => rw [State.storeBytes, ih]; rfl

/-- The write-back does nothing in the unsigned-offset form and writes the base in the two others. -/
theorem writeBack_cases (scale : Nat) (form : AddrForm) (rn : RegIdx) (s u : State) :
    (isWriteback form = false ∧ writeBack rn (ldstAddress scale form rn s).2 u = u) ∨
    (isWriteback form = true ∧ ∃ w, (ldstAddress scale form rn s).2 = some w ∧
      writeBack rn (ldstAddress scale form rn s).2 u = u.writeXSP rn w) := by
  cases form with
  | unsignedOffset imm12 => exact .inl ⟨rfl, rfl⟩
  | postIndex imm9 => exact .inr ⟨rfl, _, rfl, rfl⟩
  | preIndex imm9 => exact .inr ⟨rfl, _, rfl, rfl⟩

/-! ## The values statements are written in -/

/-- A natural number added to a word. -/
theorem wordPlus_natCast (a : Word) (k : Nat) : wordPlus a k = a + BitVec.ofNat 64 k := by
  apply BitVec.eq_of_toNat_eq
  simp only [wordPlus, BitVec.toNat_ofInt, BitVec.toNat_add, BitVec.toNat_ofNat]
  omega

/-- An integer added to a word is the word of that integer added. -/
theorem wordPlus_eq (a : Word) (k : Int) : wordPlus a k = a + BitVec.ofInt 64 k := by
  rw [wordPlus, BitVec.ofInt_add]
  congr 1
  exact BitVec.eq_of_toNat_eq (by simp)

/-- Everything a step can do: it runs from an empty error slot only, and either raises the fault of a site
or executes the instruction its fetch decodes. -/
theorem step_cases {s t : State} (h : step s = .next t) :
    s.err = .none ∧
    ((∃ site, fetchDecode s = .reject site ∧ t = s.faulted site) ∨
     (∃ i, fetchDecode s = .instr i ∧ exec i s = .next t)) := by
  unfold step isFaulted at h
  split at h
  · cases h
  · rename_i he
    refine ⟨by simpa using he, ?_⟩
    cases hd : fetchDecode s with
    | instr i => rw [hd] at h; exact .inr ⟨i, rfl, h⟩
    | reject site => rw [hd] at h; exact .inl ⟨site, rfl, raise_next.mp h⟩

end Sys2Proof.Machine
end

