-- ==== Sys2Proof/Laws/PerInstr.lean ====
section
/-! SUPPORT. One lemma for each constructor of `Instr`: selection inside its class gives the instruction
back, with every operand as it was. -/

namespace Sys2Proof.Laws.SelectToClass

/-- The class value of an instruction selects that instruction. -/
def Statement (i : Instr) : Prop := selectInstr i.toClass = .instr i

theorem addVector (q : BitVec 1) (size : BitVec 2) (rm : RegIdx) (rn : RegIdx) (rd : RegIdx) : Statement (.addVector q size rm rn rd) := by rfl
theorem andVector (q : BitVec 1) (rm : RegIdx) (rn : RegIdx) (rd : RegIdx) : Statement (.andVector q rm rn rd) := by rfl
theorem bicVector (q : BitVec 1) (rm : RegIdx) (rn : RegIdx) (rd : RegIdx) : Statement (.bicVector q rm rn rd) := by rfl
theorem orrVector (q : BitVec 1) (rm : RegIdx) (rn : RegIdx) (rd : RegIdx) : Statement (.orrVector q rm rn rd) := by rfl
theorem ornVector (q : BitVec 1) (rm : RegIdx) (rn : RegIdx) (rd : RegIdx) : Statement (.ornVector q rm rn rd) := by rfl
theorem eorVector (q : BitVec 1) (rm : RegIdx) (rn : RegIdx) (rd : RegIdx) : Statement (.eorVector q rm rn rd) := by rfl
theorem bslVector (q : BitVec 1) (rm : RegIdx) (rn : RegIdx) (rd : RegIdx) : Statement (.bslVector q rm rn rd) := by rfl
theorem bitVector (q : BitVec 1) (rm : RegIdx) (rn : RegIdx) (rd : RegIdx) : Statement (.bitVector q rm rn rd) := by rfl
theorem bifVector (q : BitVec 1) (rm : RegIdx) (rn : RegIdx) (rd : RegIdx) : Statement (.bifVector q rm rn rd) := by rfl
theorem aese (rn : RegIdx) (rd : RegIdx) : Statement (.aese rn rd) := by rfl
theorem aesd (rn : RegIdx) (rd : RegIdx) : Statement (.aesd rn rd) := by rfl
theorem aesmc (rn : RegIdx) (rd : RegIdx) : Statement (.aesmc rn rd) := by rfl
theorem aesimc (rn : RegIdx) (rd : RegIdx) : Statement (.aesimc rn rd) := by rfl
theorem b (imm26 : BitVec 26) : Statement (.b imm26) := by rfl
theorem bl (imm26 : BitVec 26) : Statement (.bl imm26) := by rfl
theorem bCond (imm19 : BitVec 19) (cond : BitVec 4) : Statement (.bCond imm19 cond) := by rfl
theorem cbz (sf : BitVec 1) (imm19 : BitVec 19) (rt : RegIdx) : Statement (.cbz sf imm19 rt) := by rfl
theorem cbnz (sf : BitVec 1) (imm19 : BitVec 19) (rt : RegIdx) : Statement (.cbnz sf imm19 rt) := by rfl
theorem br (rn : RegIdx) : Statement (.br rn) := by rfl
theorem blr (rn : RegIdx) : Statement (.blr rn) := by rfl
theorem ret (rn : RegIdx) : Statement (.ret rn) := by rfl
theorem nop : Statement (.nop) := by rfl
theorem strbOff (imm12 : BitVec 12) (rn : RegIdx) (rt : RegIdx) : Statement (.strbOff imm12 rn rt) := by rfl
theorem ldrbOff (imm12 : BitVec 12) (rn : RegIdx) (rt : RegIdx) : Statement (.ldrbOff imm12 rn rt) := by rfl
theorem strhOff (imm12 : BitVec 12) (rn : RegIdx) (rt : RegIdx) : Statement (.strhOff imm12 rn rt) := by rfl
theorem ldrhOff (imm12 : BitVec 12) (rn : RegIdx) (rt : RegIdx) : Statement (.ldrhOff imm12 rn rt) := by rfl
theorem strWOff (imm12 : BitVec 12) (rn : RegIdx) (rt : RegIdx) : Statement (.strWOff imm12 rn rt) := by rfl
theorem ldrWOff (imm12 : BitVec 12) (rn : RegIdx) (rt : RegIdx) : Statement (.ldrWOff imm12 rn rt) := by rfl
theorem strXOff (imm12 : BitVec 12) (rn : RegIdx) (rt : RegIdx) : Statement (.strXOff imm12 rn rt) := by rfl
theorem ldrXOff (imm12 : BitVec 12) (rn : RegIdx) (rt : RegIdx) : Statement (.ldrXOff imm12 rn rt) := by rfl
theorem strSimdBOff (imm12 : BitVec 12) (rn : RegIdx) (rt : RegIdx) : Statement (.strSimdBOff imm12 rn rt) := by rfl
theorem ldrSimdBOff (imm12 : BitVec 12) (rn : RegIdx) (rt : RegIdx) : Statement (.ldrSimdBOff imm12 rn rt) := by rfl
theorem strSimdHOff (imm12 : BitVec 12) (rn : RegIdx) (rt : RegIdx) : Statement (.strSimdHOff imm12 rn rt) := by rfl
theorem ldrSimdHOff (imm12 : BitVec 12) (rn : RegIdx) (rt : RegIdx) : Statement (.ldrSimdHOff imm12 rn rt) := by rfl
theorem strSimdSOff (imm12 : BitVec 12) (rn : RegIdx) (rt : RegIdx) : Statement (.strSimdSOff imm12 rn rt) := by rfl
theorem ldrSimdSOff (imm12 : BitVec 12) (rn : RegIdx) (rt : RegIdx) : Statement (.ldrSimdSOff imm12 rn rt) := by rfl
theorem strSimdDOff (imm12 : BitVec 12) (rn : RegIdx) (rt : RegIdx) : Statement (.strSimdDOff imm12 rn rt) := by rfl
theorem ldrSimdDOff (imm12 : BitVec 12) (rn : RegIdx) (rt : RegIdx) : Statement (.ldrSimdDOff imm12 rn rt) := by rfl
theorem strSimdQOff (imm12 : BitVec 12) (rn : RegIdx) (rt : RegIdx) : Statement (.strSimdQOff imm12 rn rt) := by rfl
theorem ldrSimdQOff (imm12 : BitVec 12) (rn : RegIdx) (rt : RegIdx) : Statement (.ldrSimdQOff imm12 rn rt) := by rfl
theorem strbPost (imm9 : BitVec 9) (rn : RegIdx) (rt : RegIdx) : Statement (.strbPost imm9 rn rt) := by rfl
theorem ldrbPost (imm9 : BitVec 9) (rn : RegIdx) (rt : RegIdx) : Statement (.ldrbPost imm9 rn rt) := by rfl
theorem strhPost (imm9 : BitVec 9) (rn : RegIdx) (rt : RegIdx) : Statement (.strhPost imm9 rn rt) := by rfl
theorem ldrhPost (imm9 : BitVec 9) (rn : RegIdx) (rt : RegIdx) : Statement (.ldrhPost imm9 rn rt) := by rfl
theorem strWPost (imm9 : BitVec 9) (rn : RegIdx) (rt : RegIdx) : Statement (.strWPost imm9 rn rt) := by rfl
theorem ldrWPost (imm9 : BitVec 9) (rn : RegIdx) (rt : RegIdx) : Statement (.ldrWPost imm9 rn rt) := by rfl
theorem strXPost (imm9 : BitVec 9) (rn : RegIdx) (rt : RegIdx) : Statement (.strXPost imm9 rn rt) := by rfl
theorem ldrXPost (imm9 : BitVec 9) (rn : RegIdx) (rt : RegIdx) : Statement (.ldrXPost imm9 rn rt) := by rfl
theorem strSimdBPost (imm9 : BitVec 9) (rn : RegIdx) (rt : RegIdx) : Statement (.strSimdBPost imm9 rn rt) := by rfl
theorem ldrSimdBPost (imm9 : BitVec 9) (rn : RegIdx) (rt : RegIdx) : Statement (.ldrSimdBPost imm9 rn rt) := by rfl
theorem strSimdHPost (imm9 : BitVec 9) (rn : RegIdx) (rt : RegIdx) : Statement (.strSimdHPost imm9 rn rt) := by rfl
theorem ldrSimdHPost (imm9 : BitVec 9) (rn : RegIdx) (rt : RegIdx) : Statement (.ldrSimdHPost imm9 rn rt) := by rfl
theorem strSimdSPost (imm9 : BitVec 9) (rn : RegIdx) (rt : RegIdx) : Statement (.strSimdSPost imm9 rn rt) := by rfl
theorem ldrSimdSPost (imm9 : BitVec 9) (rn : RegIdx) (rt : RegIdx) : Statement (.ldrSimdSPost imm9 rn rt) := by rfl
theorem strSimdDPost (imm9 : BitVec 9) (rn : RegIdx) (rt : RegIdx) : Statement (.strSimdDPost imm9 rn rt) := by rfl
theorem ldrSimdDPost (imm9 : BitVec 9) (rn : RegIdx) (rt : RegIdx) : Statement (.ldrSimdDPost imm9 rn rt) := by rfl
theorem strSimdQPost (imm9 : BitVec 9) (rn : RegIdx) (rt : RegIdx) : Statement (.strSimdQPost imm9 rn rt) := by rfl
theorem ldrSimdQPost (imm9 : BitVec 9) (rn : RegIdx) (rt : RegIdx) : Statement (.ldrSimdQPost imm9 rn rt) := by rfl
theorem strbPre (imm9 : BitVec 9) (rn : RegIdx) (rt : RegIdx) : Statement (.strbPre imm9 rn rt) := by rfl
theorem ldrbPre (imm9 : BitVec 9) (rn : RegIdx) (rt : RegIdx) : Statement (.ldrbPre imm9 rn rt) := by rfl
theorem strhPre (imm9 : BitVec 9) (rn : RegIdx) (rt : RegIdx) : Statement (.strhPre imm9 rn rt) := by rfl
theorem ldrhPre (imm9 : BitVec 9) (rn : RegIdx) (rt : RegIdx) : Statement (.ldrhPre imm9 rn rt) := by rfl
theorem strWPre (imm9 : BitVec 9) (rn : RegIdx) (rt : RegIdx) : Statement (.strWPre imm9 rn rt) := by rfl
theorem ldrWPre (imm9 : BitVec 9) (rn : RegIdx) (rt : RegIdx) : Statement (.ldrWPre imm9 rn rt) := by rfl
theorem strXPre (imm9 : BitVec 9) (rn : RegIdx) (rt : RegIdx) : Statement (.strXPre imm9 rn rt) := by rfl
theorem ldrXPre (imm9 : BitVec 9) (rn : RegIdx) (rt : RegIdx) : Statement (.ldrXPre imm9 rn rt) := by rfl
theorem strSimdBPre (imm9 : BitVec 9) (rn : RegIdx) (rt : RegIdx) : Statement (.strSimdBPre imm9 rn rt) := by rfl
theorem ldrSimdBPre (imm9 : BitVec 9) (rn : RegIdx) (rt : RegIdx) : Statement (.ldrSimdBPre imm9 rn rt) := by rfl
theorem strSimdHPre (imm9 : BitVec 9) (rn : RegIdx) (rt : RegIdx) : Statement (.strSimdHPre imm9 rn rt) := by rfl
theorem ldrSimdHPre (imm9 : BitVec 9) (rn : RegIdx) (rt : RegIdx) : Statement (.ldrSimdHPre imm9 rn rt) := by rfl
theorem strSimdSPre (imm9 : BitVec 9) (rn : RegIdx) (rt : RegIdx) : Statement (.strSimdSPre imm9 rn rt) := by rfl
theorem ldrSimdSPre (imm9 : BitVec 9) (rn : RegIdx) (rt : RegIdx) : Statement (.ldrSimdSPre imm9 rn rt) := by rfl
theorem strSimdDPre (imm9 : BitVec 9) (rn : RegIdx) (rt : RegIdx) : Statement (.strSimdDPre imm9 rn rt) := by rfl
theorem ldrSimdDPre (imm9 : BitVec 9) (rn : RegIdx) (rt : RegIdx) : Statement (.ldrSimdDPre imm9 rn rt) := by rfl
theorem strSimdQPre (imm9 : BitVec 9) (rn : RegIdx) (rt : RegIdx) : Statement (.strSimdQPre imm9 rn rt) := by rfl
theorem ldrSimdQPre (imm9 : BitVec 9) (rn : RegIdx) (rt : RegIdx) : Statement (.ldrSimdQPre imm9 rn rt) := by rfl
theorem addImm (sf : BitVec 1) (sh : BitVec 1) (imm12 : BitVec 12) (rn : RegIdx) (rd : RegIdx) : Statement (.addImm sf sh imm12 rn rd) := by rfl
theorem addsImm (sf : BitVec 1) (sh : BitVec 1) (imm12 : BitVec 12) (rn : RegIdx) (rd : RegIdx) : Statement (.addsImm sf sh imm12 rn rd) := by rfl
theorem subImm (sf : BitVec 1) (sh : BitVec 1) (imm12 : BitVec 12) (rn : RegIdx) (rd : RegIdx) : Statement (.subImm sf sh imm12 rn rd) := by rfl
theorem subsImm (sf : BitVec 1) (sh : BitVec 1) (imm12 : BitVec 12) (rn : RegIdx) (rd : RegIdx) : Statement (.subsImm sf sh imm12 rn rd) := by rfl
theorem movn (sf : BitVec 1) (hw : BitVec 2) (imm16 : BitVec 16) (rd : RegIdx) : Statement (.movn sf hw imm16 rd) := by rfl
theorem movz (sf : BitVec 1) (hw : BitVec 2) (imm16 : BitVec 16) (rd : RegIdx) : Statement (.movz sf hw imm16 rd) := by rfl
theorem movk (sf : BitVec 1) (hw : BitVec 2) (imm16 : BitVec 16) (rd : RegIdx) : Statement (.movk sf hw imm16 rd) := by rfl
theorem adr (immlo : BitVec 2) (immhi : BitVec 19) (rd : RegIdx) : Statement (.adr immlo immhi rd) := by rfl
theorem adrp (immlo : BitVec 2) (immhi : BitVec 19) (rd : RegIdx) : Statement (.adrp immlo immhi rd) := by rfl
theorem addShifted (sf : BitVec 1) (shift : BitVec 2) (rm : RegIdx) (imm6 : BitVec 6) (rn : RegIdx) (rd : RegIdx) : Statement (.addShifted sf shift rm imm6 rn rd) := by rfl
theorem addsShifted (sf : BitVec 1) (shift : BitVec 2) (rm : RegIdx) (imm6 : BitVec 6) (rn : RegIdx) (rd : RegIdx) : Statement (.addsShifted sf shift rm imm6 rn rd) := by rfl
theorem subShifted (sf : BitVec 1) (shift : BitVec 2) (rm : RegIdx) (imm6 : BitVec 6) (rn : RegIdx) (rd : RegIdx) : Statement (.subShifted sf shift rm imm6 rn rd) := by rfl
theorem subsShifted (sf : BitVec 1) (shift : BitVec 2) (rm : RegIdx) (imm6 : BitVec 6) (rn : RegIdx) (rd : RegIdx) : Statement (.subsShifted sf shift rm imm6 rn rd) := by rfl
theorem andShifted (sf : BitVec 1) (shift : BitVec 2) (rm : RegIdx) (imm6 : BitVec 6) (rn : RegIdx) (rd : RegIdx) : Statement (.andShifted sf shift rm imm6 rn rd) := by rfl
theorem bicShifted (sf : BitVec 1) (shift : BitVec 2) (rm : RegIdx) (imm6 : BitVec 6) (rn : RegIdx) (rd : RegIdx) : Statement (.bicShifted sf shift rm imm6 rn rd) := by rfl
theorem orrShifted (sf : BitVec 1) (shift : BitVec 2) (rm : RegIdx) (imm6 : BitVec 6) (rn : RegIdx) (rd : RegIdx) : Statement (.orrShifted sf shift rm imm6 rn rd) := by rfl
theorem ornShifted (sf : BitVec 1) (shift : BitVec 2) (rm : RegIdx) (imm6 : BitVec 6) (rn : RegIdx) (rd : RegIdx) : Statement (.ornShifted sf shift rm imm6 rn rd) := by rfl
theorem eorShifted (sf : BitVec 1) (shift : BitVec 2) (rm : RegIdx) (imm6 : BitVec 6) (rn : RegIdx) (rd : RegIdx) : Statement (.eorShifted sf shift rm imm6 rn rd) := by rfl
theorem eonShifted (sf : BitVec 1) (shift : BitVec 2) (rm : RegIdx) (imm6 : BitVec 6) (rn : RegIdx) (rd : RegIdx) : Statement (.eonShifted sf shift rm imm6 rn rd) := by rfl
theorem andsShifted (sf : BitVec 1) (shift : BitVec 2) (rm : RegIdx) (imm6 : BitVec 6) (rn : RegIdx) (rd : RegIdx) : Statement (.andsShifted sf shift rm imm6 rn rd) := by rfl
theorem bicsShifted (sf : BitVec 1) (shift : BitVec 2) (rm : RegIdx) (imm6 : BitVec 6) (rn : RegIdx) (rd : RegIdx) : Statement (.bicsShifted sf shift rm imm6 rn rd) := by rfl

end Sys2Proof.Laws.SelectToClass
end

