-- ==== Sys2Proof/Tests/Slice0.lean ====
section
/-! SUPPORT. The model's own tests. Expected values are those of spec/95_test_vectors.md (the vector is named
beside each test) and of the examples of the instruction rules; words are the spec's encodings. -/

set_option maxRecDepth 10000

namespace Sys2Proof.Tests

open Sys2Proof Sys2Proof.Machine

/-- The state after reset with an instruction word at pc. -/
def stateAt (pc : Word) (w : Nat) : State := ({ State.reset with pc := pc } : State).withFetchWord 32 w

/-- The state with bytes stored from an address upwards. -/
def withBytes (s : State) (a : Word) (bs : List Byte) : State := s.loadBytes a bs

/-- The step answers a next state that passes the check. -/
def after (s : State) (check : State → Bool) : Bool :=
  match step s with
  | .next t => check t
  | _ => false

/-- The bytes from an address upwards are these. -/
def bytesAt (t : State) (a : Word) : List Byte → Bool
  | [] => true
  | b :: bs => t.readByte a == b && bytesAt t (a + 1#64) bs

/-! ## Well-formedness: a term each check accepts and one it refuses -/

theorem test_wf_add_vector : (Instr.addVector 1#1 3#2 0#5 0#5 0#5).wellFormed = true ∧
    (Instr.addVector 0#1 3#2 0#5 0#5 0#5).wellFormed = false := by decide
theorem test_wf_writeback : (Instr.ldrXPost 8#9 1#5 2#5).wellFormed = true ∧
    (Instr.ldrXPost 8#9 31#5 31#5).wellFormed = true ∧ (Instr.ldrXPost 8#9 1#5 1#5).wellFormed = false ∧
    (Instr.strbPre 8#9 1#5 1#5).wellFormed = false ∧ (Instr.ldrXOff 8#12 1#5 1#5).wellFormed = true := by decide
theorem test_wf_move_wide : (Instr.movz 1#1 3#2 0#16 0#5).wellFormed = true ∧
    (Instr.movz 0#1 1#2 0#16 0#5).wellFormed = true ∧ (Instr.movz 0#1 2#2 0#16 0#5).wellFormed = false := by decide
theorem test_wf_add_sub_shift : (Instr.addShifted 1#1 2#2 0#5 63#6 0#5 0#5).wellFormed = true ∧
    (Instr.addShifted 1#1 3#2 0#5 0#6 0#5 0#5).wellFormed = false := by decide
theorem test_wf_amount : (Instr.subsShifted 0#1 0#2 0#5 31#6 0#5 0#5).wellFormed = true ∧
    (Instr.subsShifted 0#1 0#2 0#5 32#6 0#5 0#5).wellFormed = false ∧
    (Instr.eorShifted 0#1 3#2 0#5 32#6 0#5 0#5).wellFormed = false ∧
    (Instr.eorShifted 1#1 3#2 0#5 63#6 0#5 0#5).wellFormed = true := by decide

/-! ## Decoding: the word of a vector of spec/95_test_vectors.md for every constructor, its fields read off
the formats R116 to R130 -/

theorem test_decode_three_same :
    decode 0x4E228420#32 = .instr (.addVector 1#1 0#2 2#5 1#5 0#5) ∧
    decode 0x4E221C20#32 = .instr (.andVector 1#1 2#5 1#5 0#5) ∧
    decode 0x4E621C20#32 = .instr (.bicVector 1#1 2#5 1#5 0#5) ∧
    decode 0x4EA21C20#32 = .instr (.orrVector 1#1 2#5 1#5 0#5) ∧
    decode 0x4EE21C20#32 = .instr (.ornVector 1#1 2#5 1#5 0#5) ∧
    decode 0x6E221C20#32 = .instr (.eorVector 1#1 2#5 1#5 0#5) ∧
    decode 0x6E621C20#32 = .instr (.bslVector 1#1 2#5 1#5 0#5) ∧
    decode 0x6EA21C20#32 = .instr (.bitVector 1#1 2#5 1#5 0#5) ∧
    decode 0x6EE21C20#32 = .instr (.bifVector 1#1 2#5 1#5 0#5) := by decide
theorem test_decode_aes :
    decode 0x4E284820#32 = .instr (.aese 1#5 0#5) ∧
    decode 0x4E285820#32 = .instr (.aesd 1#5 0#5) ∧
    decode 0x4E286820#32 = .instr (.aesmc 1#5 0#5) ∧
    decode 0x4E287820#32 = .instr (.aesimc 1#5 0#5) := by decide
theorem test_decode_branches :
    decode 0x15FFFFFF#32 = .instr (.b 33554431#26) ∧
    decode 0x97FFFC00#32 = .instr (.bl 67107840#26) ∧
    decode 0x54000200#32 = .instr (.bCond 16#19 0#4) ∧
    decode 0xB4000203#32 = .instr (.cbz 1#1 16#19 3#5) ∧
    decode 0x35000203#32 = .instr (.cbnz 0#1 16#19 3#5) ∧
    decode 0xD61F0000#32 = .instr (.br 0#5) ∧
    decode 0xD63F0020#32 = .instr (.blr 1#5) ∧
    decode 0xD65F03C0#32 = .instr (.ret 30#5) ∧
    decode 0xD503201F#32 = .instr .nop := by decide
theorem test_decode_ldst_off :
    decode 0x39000C22#32 = .instr (.strbOff 3#12 1#5 2#5) ∧
    decode 0x39401C22#32 = .instr (.ldrbOff 7#12 1#5 2#5) ∧
    decode 0x79000422#32 = .instr (.strhOff 1#12 1#5 2#5) ∧
    decode 0x79400C22#32 = .instr (.ldrhOff 3#12 1#5 2#5) ∧
    decode 0xB9000422#32 = .instr (.strWOff 1#12 1#5 2#5) ∧
    decode 0xB9400422#32 = .instr (.ldrWOff 1#12 1#5 2#5) ∧
    decode 0xF9000422#32 = .instr (.strXOff 1#12 1#5 2#5) ∧
    decode 0xF9400422#32 = .instr (.ldrXOff 1#12 1#5 2#5) ∧
    decode 0x3D000022#32 = .instr (.strSimdBOff 0#12 1#5 2#5) ∧
    decode 0x3D407C22#32 = .instr (.ldrSimdBOff 31#12 1#5 2#5) ∧
    decode 0x7D000422#32 = .instr (.strSimdHOff 1#12 1#5 2#5) ∧
    decode 0x7D403C22#32 = .instr (.ldrSimdHOff 15#12 1#5 2#5) ∧
    decode 0xBD000422#32 = .instr (.strSimdSOff 1#12 1#5 2#5) ∧
    decode 0xBD401C22#32 = .instr (.ldrSimdSOff 7#12 1#5 2#5) ∧
    decode 0xFD000422#32 = .instr (.strSimdDOff 1#12 1#5 2#5) ∧
    decode 0xFD400C22#32 = .instr (.ldrSimdDOff 3#12 1#5 2#5) ∧
    decode 0x3D800422#32 = .instr (.strSimdQOff 1#12 1#5 2#5) ∧
    decode 0x3DC00422#32 = .instr (.ldrSimdQOff 1#12 1#5 2#5) := by decide
theorem test_decode_ldst_post :
    decode 0x38001422#32 = .instr (.strbPost 1#9 1#5 2#5) ∧
    decode 0x38401420#32 = .instr (.ldrbPost 1#9 1#5 0#5) ∧
    decode 0x78002422#32 = .instr (.strhPost 2#9 1#5 2#5) ∧
    decode 0x78402422#32 = .instr (.ldrhPost 2#9 1#5 2#5) ∧
    decode 0xB8004422#32 = .instr (.strWPost 4#9 1#5 2#5) ∧
    decode 0xB8404420#32 = .instr (.ldrWPost 4#9 1#5 0#5) ∧
    decode 0xF8008422#32 = .instr (.strXPost 8#9 1#5 2#5) ∧
    decode 0xF8500422#32 = .instr (.ldrXPost 256#9 1#5 2#5) ∧
    decode 0x3C001422#32 = .instr (.strSimdBPost 1#9 1#5 2#5) ∧
    decode 0x3C408421#32 = .instr (.ldrSimdBPost 8#9 1#5 1#5) ∧
    decode 0x7C002422#32 = .instr (.strSimdHPost 2#9 1#5 2#5) ∧
    decode 0x7C402420#32 = .instr (.ldrSimdHPost 2#9 1#5 0#5) ∧
    decode 0xBC004422#32 = .instr (.strSimdSPost 4#9 1#5 2#5) ∧
    decode 0xBC4047FF#32 = .instr (.ldrSimdSPost 4#9 31#5 31#5) ∧
    decode 0xFC1F8422#32 = .instr (.strSimdDPost 504#9 1#5 2#5) ∧
    decode 0xFC408420#32 = .instr (.ldrSimdDPost 8#9 1#5 0#5) ∧
    decode 0x3C810421#32 = .instr (.strSimdQPost 16#9 1#5 1#5) ∧
    decode 0x3CC10422#32 = .instr (.ldrSimdQPost 16#9 1#5 2#5) := by decide
theorem test_decode_ldst_pre :
    decode 0x381FFC22#32 = .instr (.strbPre 511#9 1#5 2#5) ∧
    decode 0x38401C22#32 = .instr (.ldrbPre 1#9 1#5 2#5) ∧
    decode 0x781FEC22#32 = .instr (.strhPre 510#9 1#5 2#5) ∧
    decode 0x78402C20#32 = .instr (.ldrhPre 2#9 1#5 0#5) ∧
    decode 0xB81FCC22#32 = .instr (.strWPre 508#9 1#5 2#5) ∧
    decode 0xB85FCC22#32 = .instr (.ldrWPre 508#9 1#5 2#5) ∧
    decode 0xF81F8C22#32 = .instr (.strXPre 504#9 1#5 2#5) ∧
    decode 0xF84FFC22#32 = .instr (.ldrXPre 255#9 1#5 2#5) ∧
    decode 0x3C1FFC22#32 = .instr (.strSimdBPre 511#9 1#5 2#5) ∧
    decode 0x3C401C20#32 = .instr (.ldrSimdBPre 1#9 1#5 0#5) ∧
    decode 0x7C1FEC22#32 = .instr (.strSimdHPre 510#9 1#5 2#5) ∧
    decode 0x7C402C20#32 = .instr (.ldrSimdHPre 2#9 1#5 0#5) ∧
    decode 0xBC1FCC22#32 = .instr (.strSimdSPre 508#9 1#5 2#5) ∧
    decode 0xBC404C20#32 = .instr (.ldrSimdSPre 4#9 1#5 0#5) ∧
    decode 0xFC1F8C22#32 = .instr (.strSimdDPre 504#9 1#5 2#5) ∧
    decode 0xFC408C21#32 = .instr (.ldrSimdDPre 8#9 1#5 1#5) ∧
    decode 0x3C9F0C22#32 = .instr (.strSimdQPre 496#9 1#5 2#5) ∧
    decode 0x3CC01C22#32 = .instr (.ldrSimdQPre 1#9 1#5 2#5) := by decide
theorem test_decode_dp_immediate :
    decode 0x913FFCA0#32 = .instr (.addImm 1#1 0#1 4095#12 5#5 0#5) ∧
    decode 0xB1000420#32 = .instr (.addsImm 1#1 0#1 1#12 1#5 0#5) ∧
    decode 0xD10040A0#32 = .instr (.subImm 1#1 0#1 16#12 5#5 0#5) ∧
    decode 0xF10000A0#32 = .instr (.subsImm 1#1 0#1 0#12 5#5 0#5) ∧
    decode 0x92800000#32 = .instr (.movn 1#1 0#2 0#16 0#5) ∧
    decode 0xD297DDE0#32 = .instr (.movz 1#1 0#2 48879#16 0#5) ∧
    decode 0xF2955540#32 = .instr (.movk 1#1 0#2 43690#16 0#5) ∧
    decode 0x10000000#32 = .instr (.adr 0#2 0#19 0#5) ∧
    decode 0x90000000#32 = .instr (.adrp 0#2 0#19 0#5) := by decide
theorem test_decode_dp_register :
    decode 0x8B0600A0#32 = .instr (.addShifted 1#1 0#2 6#5 0#6 5#5 0#5) ∧
    decode 0xAB038020#32 = .instr (.addsShifted 1#1 0#2 3#5 32#6 1#5 0#5) ∧
    decode 0xCB0600A0#32 = .instr (.subShifted 1#1 0#2 6#5 0#6 5#5 0#5) ∧
    decode 0xEB020080#32 = .instr (.subsShifted 1#1 0#2 2#5 0#6 4#5 0#5) ∧
    decode 0x8A0600A0#32 = .instr (.andShifted 1#1 0#2 6#5 0#6 5#5 0#5) ∧
    decode 0x8A2600A0#32 = .instr (.bicShifted 1#1 0#2 6#5 0#6 5#5 0#5) ∧
    decode 0xAA0610A0#32 = .instr (.orrShifted 1#1 0#2 6#5 4#6 5#5 0#5) ∧
    decode 0xAA2600A0#32 = .instr (.ornShifted 1#1 0#2 6#5 0#6 5#5 0#5) ∧
    decode 0xCA0100A0#32 = .instr (.eorShifted 1#1 0#2 1#5 0#6 5#5 0#5) ∧
    decode 0xCA2600A0#32 = .instr (.eonShifted 1#1 0#2 6#5 0#6 5#5 0#5) ∧
    decode 0xEA0400A0#32 = .instr (.andsShifted 1#1 0#2 4#5 0#6 5#5 0#5) ∧
    decode 0xEA220020#32 = .instr (.bicsShifted 1#1 0#2 2#5 0#6 1#5 0#5) := by decide

/-- A word of each family written out bit by bit from its format. -/
theorem test_decode_bit_by_bit :
    decode (0b0#1 ++ 1#1 ++ 0#1 ++ 0b01110#5 ++ 2#2 ++ 1#1 ++ 2#5 ++ 0b10000#5 ++ 1#1 ++ 1#5 ++ 0#5) =
      .instr (.addVector 1#1 2#2 2#5 1#5 0#5) ∧
    decode (0b01001110#8 ++ 0#2 ++ 0b10100#5 ++ 0b00101#5 ++ 0b10#2 ++ 1#5 ++ 0#5) = .instr (.aesd 1#5 0#5) ∧
    decode (1#1 ++ 0b00101#5 ++ 0x40#26) = .instr (.bl 0x40#26) ∧
    decode (3#2 ++ 0b111#3 ++ 0#1 ++ 0b00#2 ++ 1#2 ++ 0#1 ++ 0x1F8#9 ++ 0b11#2 ++ 31#5 ++ 2#5) =
      .instr (.ldrXPre 0x1F8#9 31#5 2#5) ∧
    decode (1#1 ++ 0b11#2 ++ 0b100101#6 ++ 2#2 ++ 0xBEEF#16 ++ 0#5) = .instr (.movk 1#1 2#2 0xBEEF#16 0#5) ∧
    decode (0#1 ++ 0b10#2 ++ 0b01010#5 ++ 3#2 ++ 1#1 ++ 1#5 ++ 31#6 ++ 1#5 ++ 0#5) =
      .instr (.eonShifted 0#1 3#2 1#5 31#6 1#5 0#5) := by decide

/-- The bytes of R74's example, and the host's reading of a table word. -/
theorem test_decode_bytes : decodeBytes 0x20#8 0x48#8 0x28#8 0x4E#8 = .instr (.aese 1#5 0#5) ∧
    decodeTableWord 32 0x4E284820 = some (.aese 1#5 0#5) ∧ decodeTableWord 32 0xD4000001 = none := by decide

/-! ## One step of each instruction -/

/-- spec/95_test_vectors.md `ADD V0.16B, V1.16B, V2.16B`, `ADD V1.4S, V1.4S, V1.4S`. -/
theorem test_step_add_vector :
    after ((((stateAt 0x1000#64 0x4E228420).writeV 0#5 0xFFFFFFFFFFFFFFFFFFFFFFFFFFFFFFFF#128).writeV 1#5 0x80FF7F01FFFFFFFF00000000FFFF00FF#128).writeV 2#5 0x8001810100000001FFFFFFFF000100FF#128)
      (fun t => t.readV 0#5 == 0x2FFFFFF00FFFFFFFFFF0000FE#128 && t.pc == 0x1004#64 && t.err == .none) = true ∧
    after ((stateAt 0x1000#64 0x4EA18421).writeV 1#5 0x80FF7F01FFFFFFFF00000000FFFF00FF#128)
      (fun t => t.readV 1#5 == 0x1FEFE02FFFFFFFE00000000FFFE01FE#128 && t.pc == 0x1004#64 && t.err == .none) = true := by decide
/-- spec/95_test_vectors.md `AND V0.16B, V1.16B, V2.16B`, `AND V0.8B, V1.8B, V2.8B`. -/
theorem test_step_and_vector :
    after ((((stateAt 0x1000#64 0x4E221C20).writeV 0#5 0xFFFFFFFF00000000FFFFFFFF00000000#128).writeV 1#5 0x123456789ABCDEFFEDCBA9876543210#128).writeV 2#5 0xFFFF0000FF00F0F0AAAAAAAA55555555#128)
      (fun t => t.readV 0#5 == 0x12300008900C0E0AA88AA8854541010#128 && t.pc == 0x1004#64 && t.err == .none) = true ∧
    after ((((stateAt 0x1000#64 0x0E221C20).writeV 0#5 0xFFFFFFFF00000000FFFFFFFF00000000#128).writeV 1#5 0x123456789ABCDEFFEDCBA9876543210#128).writeV 2#5 0xFFFF0000FF00F0F0AAAAAAAA55555555#128)
      (fun t => t.readV 0#5 == 0xAA88AA8854541010#128 && t.pc == 0x1004#64 && t.err == .none) = true := by decide
/-- spec/95_test_vectors.md `BIC V0.16B, V1.16B, V2.16B`. -/
theorem test_step_bic_vector :
    after ((((stateAt 0x1000#64 0x4E621C20).writeV 0#5 0xFFFFFFFF00000000FFFFFFFF00000000#128).writeV 1#5 0x123456789ABCDEFFEDCBA9876543210#128).writeV 2#5 0xFFFF0000FF00F0F0AAAAAAAA55555555#128)
      (fun t => t.readV 0#5 == 0x456700AB0D0F5454101022002200#128 && t.pc == 0x1004#64 && t.err == .none) = true := by decide
/-- spec/95_test_vectors.md `ORR V0.16B, V1.16B, V2.16B`, `ORR V31.16B, V30.16B, V30.16B`. -/
theorem test_step_orr_vector :
    after ((((stateAt 0x1000#64 0x4EA21C20).writeV 0#5 0xFFFFFFFF00000000FFFFFFFF00000000#128).writeV 1#5 0x123456789ABCDEFFEDCBA9876543210#128).writeV 2#5 0xFFFF0000FF00F0F0AAAAAAAA55555555#128)
      (fun t => t.readV 0#5 == 0xFFFF4567FFABFDFFFEFEBABA77557755#128 && t.pc == 0x1004#64 && t.err == .none) = true ∧
    after (((stateAt 0x1000#64 0x4EBE1FDF).writeV 30#5 0x123456789ABCDEFFEDCBA9876543210#128).writeV 31#5 0xFFFFFFFF00000000FFFFFFFF00000000#128)
      (fun t => t.readV 31#5 == 0x123456789ABCDEFFEDCBA9876543210#128 && t.pc == 0x1004#64 && t.err == .none) = true := by decide
/-- spec/95_test_vectors.md `ORN V0.16B, V1.16B, V2.16B`, `ORN V0.8B, V1.8B, V2.8B`. -/
theorem test_step_orn_vector :
    after ((((stateAt 0x1000#64 0x4EE21C20).writeV 0#5 0xFFFFFFFF00000000FFFFFFFF00000000#128).writeV 1#5 0x123456789ABCDEFFEDCBA9876543210#128).writeV 2#5 0xFFFF0000FF00F0F0AAAAAAAA55555555#128)
      (fun t => t.readV 0#5 == 0x123FFFF89FFCFEFFFDDFFDDFEFEBABA#128 && t.pc == 0x1004#64 && t.err == .none) = true ∧
    after ((((stateAt 0x1000#64 0x0EE21C20).writeV 0#5 0xFFFFFFFF00000000FFFFFFFF00000000#128).writeV 1#5 0x123456789ABCDEFFEDCBA9876543210#128).writeV 2#5 0xFFFF0000FF00F0F0AAAAAAAA55555555#128)
      (fun t => t.readV 0#5 == 0xFFDDFFDDFEFEBABA#128 && t.pc == 0x1004#64 && t.err == .none) = true := by decide
/-- spec/95_test_vectors.md `EOR V0.16B, V1.16B, V2.16B`, `EOR V5.16B, V5.16B, V5.16B`. -/
theorem test_step_eor_vector :
    after ((((stateAt 0x1000#64 0x6E221C20).writeV 0#5 0xFFFFFFFF00000000FFFFFFFF00000000#128).writeV 1#5 0x123456789ABCDEFFEDCBA9876543210#128).writeV 2#5 0xFFFF0000FF00F0F0AAAAAAAA55555555#128)
      (fun t => t.readV 0#5 == 0xFEDC456776AB3D1F5476103223016745#128 && t.pc == 0x1004#64 && t.err == .none) = true ∧
    after ((stateAt 0x1000#64 0x6E251CA5).writeV 5#5 0x123456789ABCDEFFEDCBA9876543210#128)
      (fun t => t.readV 5#5 == 0x0#128 && t.pc == 0x1004#64 && t.err == .none) = true := by decide
/-- spec/95_test_vectors.md `BSL V0.16B, V1.16B, V2.16B`, `BSL V0.16B, V0.16B, V0.16B`. -/
theorem test_step_bsl_vector :
    after ((((stateAt 0x1000#64 0x6E621C20).writeV 0#5 0xFFFFFFFF00000000FFFFFFFF00000000#128).writeV 1#5 0x123456789ABCDEFFEDCBA9876543210#128).writeV 2#5 0xFFFF0000FF00F0F0AAAAAAAA55555555#128)
      (fun t => t.readV 0#5 == 0x1234567FF00F0F0FEDCBA9855555555#128 && t.pc == 0x1004#64 && t.err == .none) = true ∧
    after ((stateAt 0x1000#64 0x6E601C00).writeV 0#5 0xFFFFFFFF00000000FFFFFFFF00000000#128)
      (fun t => t.pc == 0x1004#64 && t.err == .none) = true := by decide
/-- spec/95_test_vectors.md `BIT V0.16B, V1.16B, V2.16B`. -/
theorem test_step_bit_vector :
    after ((((stateAt 0x1000#64 0x6EA21C20).writeV 0#5 0xFFFFFFFF00000000FFFFFFFF00000000#128).writeV 1#5 0x123456789ABCDEFFEDCBA9876543210#128).writeV 2#5 0xFFFF0000FF00F0F0AAAAAAAA55555555#128)
      (fun t => t.readV 0#5 == 0x123FFFF8900C0E0FFDDFFDD54541010#128 && t.pc == 0x1004#64 && t.err == .none) = true := by decide
/-- spec/95_test_vectors.md `BIF V0.16B, V1.16B, V2.16B`, `BIF V0.8B, V1.8B, V2.8B`. -/
theorem test_step_bif_vector :
    after ((((stateAt 0x1000#64 0x6EE21C20).writeV 0#5 0xFFFFFFFF00000000FFFFFFFF00000000#128).writeV 1#5 0x123456789ABCDEFFEDCBA9876543210#128).writeV 2#5 0xFFFF0000FF00F0F0AAAAAAAA55555555#128)
      (fun t => t.readV 0#5 == 0xFFFF456700AB0D0FFEFEBABA22002200#128 && t.pc == 0x1004#64 && t.err == .none) = true ∧
    after ((((stateAt 0x1000#64 0x2EE21C20).writeV 0#5 0xFFFFFFFF00000000FFFFFFFF00000000#128).writeV 1#5 0x123456789ABCDEFFEDCBA9876543210#128).writeV 2#5 0xFFFF0000FF00F0F0AAAAAAAA55555555#128)
      (fun t => t.readV 0#5 == 0xFEFEBABA22002200#128 && t.pc == 0x1004#64 && t.err == .none) = true := by decide
/-- spec/95_test_vectors.md `AESE V0.16B, V1.16B`, `AESE V2.16B, V2.16B`. -/
theorem test_step_aese :
    after (((stateAt 0x1000#64 0x4E284820).writeV 0#5 0xFFEEDDCCBBAA99887766554433221100#128).writeV 1#5 0xF0E0D0C0B0A09080706050403020100#128)
      (fun t => t.readV 0#5 == 0xE7D0CABA51B770CD04E160098CE05363#128 && t.pc == 0x1004#64 && t.err == .none) = true ∧
    after ((stateAt 0x1000#64 0x4E284842).writeV 2#5 0xFFEEDDCCBBAA99887766554433221100#128)
      (fun t => t.readV 2#5 == 0x63636363636363636363636363636363#128 && t.pc == 0x1004#64 && t.err == .none) = true := by decide
/-- spec/95_test_vectors.md `AESD V0.16B, V1.16B`, `AESD V0.16B, V1.16B`. -/
theorem test_step_aesd :
    after (((stateAt 0x1000#64 0x4E285820).writeV 0#5 0xFFEEDDCCBBAA99887766554433221100#128).writeV 1#5 0xF0E0D0C0B0A09080706050403020100#128)
      (fun t => t.readV 0#5 == 0x890961F17546C3AFCA07C72D0476052#128 && t.pc == 0x1004#64 && t.err == .none) = true ∧
    after (((stateAt 0x1000#64 0x4E285820).writeV 0#5 0xE7D0CABA51B770CD04E160098CE05363#128).writeV 1#5 0x0#128)
      (fun t => t.readV 0#5 == 0xF0E0D0C0B0A090807060504030201000#128 && t.pc == 0x1004#64 && t.err == .none) = true := by decide
/-- spec/95_test_vectors.md `AESMC V0.16B, V1.16B`, `AESMC V3.16B, V3.16B`. -/
theorem test_step_aesmc :
    after (((stateAt 0x1000#64 0x4E286820).writeV 0#5 0x5#128).writeV 1#5 0xFFEEDDCCBBAA99887766554433221100#128)
      (fun t => t.readV 0#5 == 0x99CCBBEEDD88FFAA1144336655007722#128 && t.pc == 0x1004#64 && t.err == .none) = true ∧
    after ((stateAt 0x1000#64 0x4E286863).writeV 3#5 0x63636363636363636363636363636363#128)
      (fun t => t.pc == 0x1004#64 && t.err == .none) = true := by decide
/-- spec/95_test_vectors.md `AESIMC V0.16B, V1.16B`, `AESIMC V0.16B, V0.16B`. -/
theorem test_step_aesimc :
    after (((stateAt 0x1000#64 0x4E287820).writeV 0#5 0x5#128).writeV 1#5 0xFFEEDDCCBBAA99887766554433221100#128)
      (fun t => t.readV 0#5 == 0x114433665500772299CCBBEEDD88FFAA#128 && t.pc == 0x1004#64 && t.err == .none) = true ∧
    after ((stateAt 0x1000#64 0x4E287800).writeV 0#5 0xC6C6C6C6010101019D58DC9FBCA14D8E#128)
      (fun t => t.readV 0#5 == 0xC6C6C6C6010101015C220AF2455313DB#128 && t.pc == 0x1004#64 && t.err == .none) = true := by decide
/-- spec/95_test_vectors.md `B #0x7FFFFFC`, `B #0`. -/
theorem test_step_b :
    after (stateAt 0x1000#64 0x15FFFFFF)
      (fun t => t.pc == 0x8000FFC#64 && t.err == .none) = true ∧
    after (stateAt 0x1000#64 0x14000000)
      (fun t => t.pc == 0x1000#64 && t.err == .none) = true := by decide
/-- spec/95_test_vectors.md `BL #-0x1000`, `BL #4`. -/
theorem test_step_bl :
    after ((stateAt 0x1000#64 0x97FFFC00).writeX 30#5 0xAAAA#64)
      (fun t => t.readX 30#5 == 0x1004#64 && t.pc == 0x0#64 && t.err == .none) = true ∧
    after (stateAt 0x1000#64 0x94000001)
      (fun t => t.readX 30#5 == 0x1004#64 && t.pc == 0x1004#64 && t.err == .none) = true := by decide
/-- spec/95_test_vectors.md `B.EQ #0x40`, `B.EQ #0xFFFFC`. -/
theorem test_step_b_cond :
    after ((stateAt 0x1000#64 0x54000200).setFlags ⟨false, true, false, false⟩)
      (fun t => t.pc == 0x1040#64 && t.err == .none) = true ∧
    after ((stateAt 0x1000#64 0x547FFFE0).setFlags ⟨false, true, false, false⟩)
      (fun t => t.pc == 0x100FFC#64 && t.err == .none) = true := by decide
/-- spec/95_test_vectors.md `CBZ X3, #0x40`, `CBZ XZR, #0x40`. -/
theorem test_step_cbz :
    after ((stateAt 0x1000#64 0xB4000203).writeX 3#5 0x0#64)
      (fun t => t.pc == 0x1040#64 && t.err == .none) = true ∧
    after (stateAt 0x1000#64 0xB400021F)
      (fun t => t.pc == 0x1040#64 && t.err == .none) = true := by decide
/-- spec/95_test_vectors.md `CBNZ W3, #0x40`, `CBNZ WZR, #0x40`. -/
theorem test_step_cbnz :
    after ((stateAt 0x1000#64 0x35000203).writeX 3#5 0x80000000#64)
      (fun t => t.pc == 0x1040#64 && t.err == .none) = true ∧
    after (stateAt 0x1000#64 0x3500021F)
      (fun t => t.pc == 0x1004#64 && t.err == .none) = true := by decide
/-- spec/95_test_vectors.md `BR X0`, `BR X5`. -/
theorem test_step_br :
    after ((stateAt 0x1000#64 0xD61F0000).writeX 0#5 0xFFFFFFFFFFFFFFFC#64)
      (fun t => t.pc == 0xFFFFFFFFFFFFFFFC#64 && t.err == .none) = true ∧
    after ((stateAt 0x1000#64 0xD61F00A0).writeX 5#5 0x2002#64)
      (fun t => t.pc == 0x2002#64 && t.err == .none) = true := by decide
/-- spec/95_test_vectors.md `BLR X1`, `BLR X30`. -/
theorem test_step_blr :
    after (((stateAt 0x1000#64 0xD63F0020).writeX 1#5 0x4000#64).writeX 30#5 0x5#64)
      (fun t => t.readX 30#5 == 0x1004#64 && t.pc == 0x4000#64 && t.err == .none) = true ∧
    after ((stateAt 0x1000#64 0xD63F03C0).writeX 30#5 0x2000#64)
      (fun t => t.readX 30#5 == 0x1004#64 && t.pc == 0x2000#64 && t.err == .none) = true := by decide
/-- spec/95_test_vectors.md `RET`, `RET X7`. -/
theorem test_step_ret :
    after ((stateAt 0x1000#64 0xD65F03C0).writeX 30#5 0x1234#64)
      (fun t => t.pc == 0x1234#64 && t.err == .none) = true ∧
    after (((stateAt 0x1000#64 0xD65F00E0).writeX 7#5 0x40#64).writeX 30#5 0x1234#64)
      (fun t => t.pc == 0x40#64 && t.err == .none) = true := by decide
/-- spec/95_test_vectors.md `NOP`. -/
theorem test_step_nop :
    after (stateAt 0x1000#64 0xD503201F)
      (fun t => t.pc == 0x1004#64 && t.err == .none) = true := by decide
/-- spec/95_test_vectors.md `ADD X0, X5, #0xFFF`, `ADD WSP, W5, #0`. -/
theorem test_step_add_imm :
    after ((((((((stateAt 0x1000#64 0x913FFCA0).writeX 0#5 0xDEADDEADDEADDEAD#64).writeX 1#5 0xFFFFFFFFFFFFFFFF#64).writeX 2#5 0x7FFFFFFFFFFFFFFF#64).writeX 3#5 0xFFFFFFFF#64).writeX 4#5 0x8000000000000000#64).writeX 5#5 0x123456789ABCDEF0#64).writeX 6#5 0xF0F0F0F0F0F0F0F#64)
      (fun t => t.readX 0#5 == 0x123456789ABCEEEF#64 && t.pc == 0x1004#64 && t.err == .none) = true ∧
    after (((((((((stateAt 0x1000#64 0x110000BF).writeX 0#5 0xDEADDEADDEADDEAD#64).writeX 1#5 0xFFFFFFFFFFFFFFFF#64).writeX 2#5 0x7FFFFFFFFFFFFFFF#64).writeX 3#5 0xFFFFFFFF#64).writeX 4#5 0x8000000000000000#64).writeX 5#5 0x123456789ABCDEF0#64).writeX 6#5 0xF0F0F0F0F0F0F0F#64).writeXSP 31#5 0xFFFFFFFFFFFFFFFF#64)
      (fun t => t.sp == 0x9ABCDEF0#64 && t.pc == 0x1004#64 && t.err == .none) = true := by decide
/-- spec/95_test_vectors.md `ADDS X0, X1, #1`, `ADDS X0, SP, #1`. -/
theorem test_step_adds_imm :
    after ((((((((stateAt 0x1000#64 0xB1000420).writeX 0#5 0xDEADDEADDEADDEAD#64).writeX 1#5 0xFFFFFFFFFFFFFFFF#64).writeX 2#5 0x7FFFFFFFFFFFFFFF#64).writeX 3#5 0xFFFFFFFF#64).writeX 4#5 0x8000000000000000#64).writeX 5#5 0x123456789ABCDEF0#64).writeX 6#5 0xF0F0F0F0F0F0F0F#64)
      (fun t => t.readX 0#5 == 0x0#64 && t.flags == ⟨false, true, true, false⟩ && t.pc == 0x1004#64 && t.err == .none) = true ∧
    after (((((((((stateAt 0x1000#64 0xB10007E0).writeX 0#5 0xDEADDEADDEADDEAD#64).writeX 1#5 0xFFFFFFFFFFFFFFFF#64).writeX 2#5 0x7FFFFFFFFFFFFFFF#64).writeX 3#5 0xFFFFFFFF#64).writeX 4#5 0x8000000000000000#64).writeX 5#5 0x123456789ABCDEF0#64).writeX 6#5 0xF0F0F0F0F0F0F0F#64).writeXSP 31#5 0xFFFFFFFFFFFFFFFF#64)
      (fun t => t.readX 0#5 == 0x0#64 && t.flags == ⟨false, true, true, false⟩ && t.pc == 0x1004#64 && t.err == .none) = true := by decide
/-- spec/95_test_vectors.md `SUB X0, X5, #0x10`, `SUB W0, W5, #0xFFF, LSL #12`. -/
theorem test_step_sub_imm :
    after ((((((((stateAt 0x1000#64 0xD10040A0).writeX 0#5 0xDEADDEADDEADDEAD#64).writeX 1#5 0xFFFFFFFFFFFFFFFF#64).writeX 2#5 0x7FFFFFFFFFFFFFFF#64).writeX 3#5 0xFFFFFFFF#64).writeX 4#5 0x8000000000000000#64).writeX 5#5 0x123456789ABCDEF0#64).writeX 6#5 0xF0F0F0F0F0F0F0F#64)
      (fun t => t.readX 0#5 == 0x123456789ABCDEE0#64 && t.pc == 0x1004#64 && t.err == .none) = true ∧
    after ((((((((stateAt 0x1000#64 0x517FFCA0).writeX 0#5 0xDEADDEADDEADDEAD#64).writeX 1#5 0xFFFFFFFFFFFFFFFF#64).writeX 2#5 0x7FFFFFFFFFFFFFFF#64).writeX 3#5 0xFFFFFFFF#64).writeX 4#5 0x8000000000000000#64).writeX 5#5 0x123456789ABCDEF0#64).writeX 6#5 0xF0F0F0F0F0F0F0F#64)
      (fun t => t.readX 0#5 == 0x99BCEEF0#64 && t.pc == 0x1004#64 && t.err == .none) = true := by decide
/-- spec/95_test_vectors.md `SUBS X0, X5, #0`, `CMP SP, #1`. -/
theorem test_step_subs_imm :
    after ((((((((stateAt 0x1000#64 0xF10000A0).writeX 0#5 0xDEADDEADDEADDEAD#64).writeX 1#5 0xFFFFFFFFFFFFFFFF#64).writeX 2#5 0x7FFFFFFFFFFFFFFF#64).writeX 3#5 0xFFFFFFFF#64).writeX 4#5 0x8000000000000000#64).writeX 5#5 0x123456789ABCDEF0#64).writeX 6#5 0xF0F0F0F0F0F0F0F#64)
      (fun t => t.readX 0#5 == 0x123456789ABCDEF0#64 && t.flags == ⟨false, false, true, false⟩ && t.pc == 0x1004#64 && t.err == .none) = true ∧
    after (((((((((stateAt 0x1000#64 0xF10007FF).writeX 0#5 0xDEADDEADDEADDEAD#64).writeX 1#5 0xFFFFFFFFFFFFFFFF#64).writeX 2#5 0x7FFFFFFFFFFFFFFF#64).writeX 3#5 0xFFFFFFFF#64).writeX 4#5 0x8000000000000000#64).writeX 5#5 0x123456789ABCDEF0#64).writeX 6#5 0xF0F0F0F0F0F0F0F#64).writeXSP 31#5 0x0#64)
      (fun t => t.flags == ⟨true, false, false, false⟩ && t.pc == 0x1004#64 && t.err == .none) = true := by decide
/-- spec/95_test_vectors.md `MOVN X0, #0`, `MOVN W0, #0x1234, LSL #16`. -/
theorem test_step_movn :
    after ((stateAt 0x1000#64 0x92800000).writeX 0#5 0x5#64)
      (fun t => t.readX 0#5 == 0xFFFFFFFFFFFFFFFF#64 && t.pc == 0x1004#64 && t.err == .none) = true ∧
    after ((stateAt 0x1000#64 0x12A24680).writeX 0#5 0x5#64)
      (fun t => t.readX 0#5 == 0xEDCBFFFF#64 && t.pc == 0x1004#64 && t.err == .none) = true := by decide
/-- spec/95_test_vectors.md `MOVZ X0, #0xBEEF`, `MOVZ XZR, #1`. -/
theorem test_step_movz :
    after ((stateAt 0x1000#64 0xD297DDE0).writeX 0#5 0xFFFFFFFFFFFFFFFF#64)
      (fun t => t.readX 0#5 == 0xBEEF#64 && t.pc == 0x1004#64 && t.err == .none) = true ∧
    after ((((((((stateAt 0x1000#64 0xD280003F).writeX 0#5 0xDEADDEADDEADDEAD#64).writeX 1#5 0xFFFFFFFFFFFFFFFF#64).writeX 2#5 0x7FFFFFFFFFFFFFFF#64).writeX 3#5 0xFFFFFFFF#64).writeX 4#5 0x8000000000000000#64).writeX 5#5 0x123456789ABCDEF0#64).writeX 6#5 0xF0F0F0F0F0F0F0F#64)
      (fun t => t.pc == 0x1004#64 && t.err == .none) = true := by decide
/-- spec/95_test_vectors.md `MOVK X0, #0xAAAA`, `MOVK W0, #0xAAAA, LSL #16`. -/
theorem test_step_movk :
    after ((stateAt 0x1000#64 0xF2955540).writeX 0#5 0x1111222233334444#64)
      (fun t => t.readX 0#5 == 0x111122223333AAAA#64 && t.pc == 0x1004#64 && t.err == .none) = true ∧
    after ((stateAt 0x1000#64 0x72B55540).writeX 0#5 0x1111222233334444#64)
      (fun t => t.readX 0#5 == 0xAAAA4444#64 && t.pc == 0x1004#64 && t.err == .none) = true := by decide
/-- spec/95_test_vectors.md `ADR X0, #0`, `ADR XZR, #8`. -/
theorem test_step_adr :
    after ((stateAt 0x1000#64 0x10000000).writeX 0#5 0x5#64)
      (fun t => t.readX 0#5 == 0x1000#64 && t.pc == 0x1004#64 && t.err == .none) = true ∧
    after ((stateAt 0x1000#64 0x1000005F).writeX 0#5 0x5#64)
      (fun t => t.pc == 0x1004#64 && t.err == .none) = true := by decide
/-- spec/95_test_vectors.md `ADRP X0, #0`, `ADRP X0, #-0x100000000`. -/
theorem test_step_adrp :
    after ((stateAt 0x1FFC#64 0x90000000).writeX 0#5 0x5#64)
      (fun t => t.readX 0#5 == 0x1000#64 && t.pc == 0x2000#64 && t.err == .none) = true ∧
    after ((stateAt 0x1234#64 0x90800000).writeX 0#5 0x5#64)
      (fun t => t.readX 0#5 == 0xFFFFFFFF00001000#64 && t.pc == 0x1238#64 && t.err == .none) = true := by decide
/-- spec/95_test_vectors.md `ADD X0, X5, X6`, `ADD X0, XZR, XZR`. -/
theorem test_step_add_shifted :
    after ((((((((stateAt 0x1000#64 0x8B0600A0).writeX 0#5 0xDEADDEADDEADDEAD#64).writeX 1#5 0xFFFFFFFFFFFFFFFF#64).writeX 2#5 0x7FFFFFFFFFFFFFFF#64).writeX 3#5 0xFFFFFFFF#64).writeX 4#5 0x8000000000000000#64).writeX 5#5 0x123456789ABCDEF0#64).writeX 6#5 0xF0F0F0F0F0F0F0F#64)
      (fun t => t.readX 0#5 == 0x21436587A9CBEDFF#64 && t.pc == 0x1004#64 && t.err == .none) = true ∧
    after ((stateAt 0x1000#64 0x8B1F03E0).writeX 0#5 0x5#64)
      (fun t => t.readX 0#5 == 0x0#64 && t.pc == 0x1004#64 && t.err == .none) = true := by decide
/-- spec/95_test_vectors.md `ADDS X0, X1, X3, LSL #32`, `CMN W3, W3, LSR #31`. -/
theorem test_step_adds_shifted :
    after ((((((((stateAt 0x1000#64 0xAB038020).writeX 0#5 0xDEADDEADDEADDEAD#64).writeX 1#5 0xFFFFFFFFFFFFFFFF#64).writeX 2#5 0x7FFFFFFFFFFFFFFF#64).writeX 3#5 0xFFFFFFFF#64).writeX 4#5 0x8000000000000000#64).writeX 5#5 0x123456789ABCDEF0#64).writeX 6#5 0xF0F0F0F0F0F0F0F#64)
      (fun t => t.readX 0#5 == 0xFFFFFFFEFFFFFFFF#64 && t.flags == ⟨true, false, true, false⟩ && t.pc == 0x1004#64 && t.err == .none) = true ∧
    after ((((((((stateAt 0x1000#64 0x2B437C7F).writeX 0#5 0xDEADDEADDEADDEAD#64).writeX 1#5 0xFFFFFFFFFFFFFFFF#64).writeX 2#5 0x7FFFFFFFFFFFFFFF#64).writeX 3#5 0xFFFFFFFF#64).writeX 4#5 0x8000000000000000#64).writeX 5#5 0x123456789ABCDEF0#64).writeX 6#5 0xF0F0F0F0F0F0F0F#64)
      (fun t => t.flags == ⟨false, true, true, false⟩ && t.pc == 0x1004#64 && t.err == .none) = true := by decide
/-- spec/95_test_vectors.md `SUB X0, X5, X6`, `NEG W0, W3, LSL #1`. -/
theorem test_step_sub_shifted :
    after ((((((((stateAt 0x1000#64 0xCB0600A0).writeX 0#5 0xDEADDEADDEADDEAD#64).writeX 1#5 0xFFFFFFFFFFFFFFFF#64).writeX 2#5 0x7FFFFFFFFFFFFFFF#64).writeX 3#5 0xFFFFFFFF#64).writeX 4#5 0x8000000000000000#64).writeX 5#5 0x123456789ABCDEF0#64).writeX 6#5 0xF0F0F0F0F0F0F0F#64)
      (fun t => t.readX 0#5 == 0x32547698BADCFE1#64 && t.pc == 0x1004#64 && t.err == .none) = true ∧
    after ((((((((stateAt 0x1000#64 0x4B0307E0).writeX 0#5 0xDEADDEADDEADDEAD#64).writeX 1#5 0xFFFFFFFFFFFFFFFF#64).writeX 2#5 0x7FFFFFFFFFFFFFFF#64).writeX 3#5 0xFFFFFFFF#64).writeX 4#5 0x8000000000000000#64).writeX 5#5 0x123456789ABCDEF0#64).writeX 6#5 0xF0F0F0F0F0F0F0F#64)
      (fun t => t.readX 0#5 == 0x2#64 && t.pc == 0x1004#64 && t.err == .none) = true := by decide
/-- spec/95_test_vectors.md `SUBS X0, X4, X2`, `NEGS X0, X4`. -/
theorem test_step_subs_shifted :
    after ((((((((stateAt 0x1000#64 0xEB020080).writeX 0#5 0xDEADDEADDEADDEAD#64).writeX 1#5 0xFFFFFFFFFFFFFFFF#64).writeX 2#5 0x7FFFFFFFFFFFFFFF#64).writeX 3#5 0xFFFFFFFF#64).writeX 4#5 0x8000000000000000#64).writeX 5#5 0x123456789ABCDEF0#64).writeX 6#5 0xF0F0F0F0F0F0F0F#64)
      (fun t => t.readX 0#5 == 0x1#64 && t.flags == ⟨false, false, true, true⟩ && t.pc == 0x1004#64 && t.err == .none) = true ∧
    after ((((((((stateAt 0x1000#64 0xEB0403E0).writeX 0#5 0xDEADDEADDEADDEAD#64).writeX 1#5 0xFFFFFFFFFFFFFFFF#64).writeX 2#5 0x7FFFFFFFFFFFFFFF#64).writeX 3#5 0xFFFFFFFF#64).writeX 4#5 0x8000000000000000#64).writeX 5#5 0x123456789ABCDEF0#64).writeX 6#5 0xF0F0F0F0F0F0F0F#64)
      (fun t => t.readX 0#5 == 0x8000000000000000#64 && t.flags == ⟨true, false, false, true⟩ && t.pc == 0x1004#64 && t.err == .none) = true := by decide
/-- spec/95_test_vectors.md `AND X0, X5, X6`, `AND W0, W5, W6, ROR #4`. -/
theorem test_step_and_shifted :
    after ((((((((stateAt 0x1000#64 0x8A0600A0).writeX 0#5 0xDEADDEADDEADDEAD#64).writeX 1#5 0xFFFFFFFFFFFFFFFF#64).writeX 2#5 0x7FFFFFFFFFFFFFFF#64).writeX 3#5 0xFFFFFFFF#64).writeX 4#5 0x8000000000000000#64).writeX 5#5 0x123456789ABCDEF0#64).writeX 6#5 0xF0F0F0F0F0F0F0F#64)
      (fun t => t.readX 0#5 == 0x20406080A0C0E00#64 && t.pc == 0x1004#64 && t.err == .none) = true ∧
    after ((((((((stateAt 0x1000#64 0x0AC610A0).writeX 0#5 0xDEADDEADDEADDEAD#64).writeX 1#5 0xFFFFFFFFFFFFFFFF#64).writeX 2#5 0x7FFFFFFFFFFFFFFF#64).writeX 3#5 0xFFFFFFFF#64).writeX 4#5 0x8000000000000000#64).writeX 5#5 0x123456789ABCDEF0#64).writeX 6#5 0xF0F0F0F0F0F0F0F#64)
      (fun t => t.readX 0#5 == 0x90B0D0F0#64 && t.pc == 0x1004#64 && t.err == .none) = true := by decide
/-- spec/95_test_vectors.md `BIC X0, X5, X6`, `BIC W0, W5, W3, LSR #16`. -/
theorem test_step_bic_shifted :
    after ((((((((stateAt 0x1000#64 0x8A2600A0).writeX 0#5 0xDEADDEADDEADDEAD#64).writeX 1#5 0xFFFFFFFFFFFFFFFF#64).writeX 2#5 0x7FFFFFFFFFFFFFFF#64).writeX 3#5 0xFFFFFFFF#64).writeX 4#5 0x8000000000000000#64).writeX 5#5 0x123456789ABCDEF0#64).writeX 6#5 0xF0F0F0F0F0F0F0F#64)
      (fun t => t.readX 0#5 == 0x1030507090B0D0F0#64 && t.pc == 0x1004#64 && t.err == .none) = true ∧
    after ((((((((stateAt 0x1000#64 0x0A6340A0).writeX 0#5 0xDEADDEADDEADDEAD#64).writeX 1#5 0xFFFFFFFFFFFFFFFF#64).writeX 2#5 0x7FFFFFFFFFFFFFFF#64).writeX 3#5 0xFFFFFFFF#64).writeX 4#5 0x8000000000000000#64).writeX 5#5 0x123456789ABCDEF0#64).writeX 6#5 0xF0F0F0F0F0F0F0F#64)
      (fun t => t.readX 0#5 == 0x9ABC0000#64 && t.pc == 0x1004#64 && t.err == .none) = true := by decide
/-- spec/95_test_vectors.md `ORR X0, X5, X6, LSL #4`, `ORR X0, XZR, X5, ROR #63`. -/
theorem test_step_orr_shifted :
    after ((((((((stateAt 0x1000#64 0xAA0610A0).writeX 0#5 0xDEADDEADDEADDEAD#64).writeX 1#5 0xFFFFFFFFFFFFFFFF#64).writeX 2#5 0x7FFFFFFFFFFFFFFF#64).writeX 3#5 0xFFFFFFFF#64).writeX 4#5 0x8000000000000000#64).writeX 5#5 0x123456789ABCDEF0#64).writeX 6#5 0xF0F0F0F0F0F0F0F#64)
      (fun t => t.readX 0#5 == 0xF2F4F6F8FAFCFEF0#64 && t.pc == 0x1004#64 && t.err == .none) = true ∧
    after ((((((((stateAt 0x1000#64 0xAAC5FFE0).writeX 0#5 0xDEADDEADDEADDEAD#64).writeX 1#5 0xFFFFFFFFFFFFFFFF#64).writeX 2#5 0x7FFFFFFFFFFFFFFF#64).writeX 3#5 0xFFFFFFFF#64).writeX 4#5 0x8000000000000000#64).writeX 5#5 0x123456789ABCDEF0#64).writeX 6#5 0xF0F0F0F0F0F0F0F#64)
      (fun t => t.readX 0#5 == 0x2468ACF13579BDE0#64 && t.pc == 0x1004#64 && t.err == .none) = true := by decide
/-- spec/95_test_vectors.md `ORN X0, X5, X6`, `MVN W0, W3`. -/
theorem test_step_orn_shifted :
    after ((((((((stateAt 0x1000#64 0xAA2600A0).writeX 0#5 0xDEADDEADDEADDEAD#64).writeX 1#5 0xFFFFFFFFFFFFFFFF#64).writeX 2#5 0x7FFFFFFFFFFFFFFF#64).writeX 3#5 0xFFFFFFFF#64).writeX 4#5 0x8000000000000000#64).writeX 5#5 0x123456789ABCDEF0#64).writeX 6#5 0xF0F0F0F0F0F0F0F#64)
      (fun t => t.readX 0#5 == 0xF2F4F6F8FAFCFEF0#64 && t.pc == 0x1004#64 && t.err == .none) = true ∧
    after ((((((((stateAt 0x1000#64 0x2A2303E0).writeX 0#5 0xDEADDEADDEADDEAD#64).writeX 1#5 0xFFFFFFFFFFFFFFFF#64).writeX 2#5 0x7FFFFFFFFFFFFFFF#64).writeX 3#5 0xFFFFFFFF#64).writeX 4#5 0x8000000000000000#64).writeX 5#5 0x123456789ABCDEF0#64).writeX 6#5 0xF0F0F0F0F0F0F0F#64)
      (fun t => t.readX 0#5 == 0x0#64 && t.pc == 0x1004#64 && t.err == .none) = true := by decide
/-- spec/95_test_vectors.md `EOR X0, X5, X1`, `EOR W0, W5, W4, ASR #31`. -/
theorem test_step_eor_shifted :
    after ((((((((stateAt 0x1000#64 0xCA0100A0).writeX 0#5 0xDEADDEADDEADDEAD#64).writeX 1#5 0xFFFFFFFFFFFFFFFF#64).writeX 2#5 0x7FFFFFFFFFFFFFFF#64).writeX 3#5 0xFFFFFFFF#64).writeX 4#5 0x8000000000000000#64).writeX 5#5 0x123456789ABCDEF0#64).writeX 6#5 0xF0F0F0F0F0F0F0F#64)
      (fun t => t.readX 0#5 == 0xEDCBA9876543210F#64 && t.pc == 0x1004#64 && t.err == .none) = true ∧
    after (((stateAt 0x1000#64 0x4A847CA0).writeX 4#5 0x80000000#64).writeX 5#5 0x9ABCDEF0#64)
      (fun t => t.readX 0#5 == 0x6543210F#64 && t.pc == 0x1004#64 && t.err == .none) = true := by decide
/-- spec/95_test_vectors.md `EON X0, X5, X6`, `EON W0, W5, W6, ROR #31`. -/
theorem test_step_eon_shifted :
    after ((((((((stateAt 0x1000#64 0xCA2600A0).writeX 0#5 0xDEADDEADDEADDEAD#64).writeX 1#5 0xFFFFFFFFFFFFFFFF#64).writeX 2#5 0x7FFFFFFFFFFFFFFF#64).writeX 3#5 0xFFFFFFFF#64).writeX 4#5 0x8000000000000000#64).writeX 5#5 0x123456789ABCDEF0#64).writeX 6#5 0xF0F0F0F0F0F0F0F#64)
      (fun t => t.readX 0#5 == 0xE2C4A6886A4C2E00#64 && t.pc == 0x1004#64 && t.err == .none) = true ∧
    after ((((((((stateAt 0x1000#64 0x4AE67CA0).writeX 0#5 0xDEADDEADDEADDEAD#64).writeX 1#5 0xFFFFFFFFFFFFFFFF#64).writeX 2#5 0x7FFFFFFFFFFFFFFF#64).writeX 3#5 0xFFFFFFFF#64).writeX 4#5 0x8000000000000000#64).writeX 5#5 0x123456789ABCDEF0#64).writeX 6#5 0xF0F0F0F0F0F0F0F#64)
      (fun t => t.readX 0#5 == 0x7B5D3F11#64 && t.pc == 0x1004#64 && t.err == .none) = true := by decide
/-- spec/95_test_vectors.md `ANDS X0, X5, X4`, `ANDS XZR, X5, X6`. -/
theorem test_step_ands_shifted :
    after (((((((((stateAt 0x1000#64 0xEA0400A0).writeX 0#5 0xDEADDEADDEADDEAD#64).writeX 1#5 0xFFFFFFFFFFFFFFFF#64).writeX 2#5 0x7FFFFFFFFFFFFFFF#64).writeX 3#5 0xFFFFFFFF#64).writeX 4#5 0x8000000000000000#64).writeX 5#5 0x123456789ABCDEF0#64).writeX 6#5 0xF0F0F0F0F0F0F0F#64).setFlags ⟨false, false, true, true⟩)
      (fun t => t.readX 0#5 == 0x0#64 && t.flags == ⟨false, true, false, false⟩ && t.pc == 0x1004#64 && t.err == .none) = true ∧
    after ((((((((stateAt 0x1000#64 0xEA0600BF).writeX 0#5 0xDEADDEADDEADDEAD#64).writeX 1#5 0xFFFFFFFFFFFFFFFF#64).writeX 2#5 0x7FFFFFFFFFFFFFFF#64).writeX 3#5 0xFFFFFFFF#64).writeX 4#5 0x8000000000000000#64).writeX 5#5 0x123456789ABCDEF0#64).writeX 6#5 0xF0F0F0F0F0F0F0F#64)
      (fun t => t.flags == ⟨false, false, false, false⟩ && t.pc == 0x1004#64 && t.err == .none) = true := by decide
/-- spec/95_test_vectors.md `BICS X0, X1, X2`, `BICS W0, W3, W1`. -/
theorem test_step_bics_shifted :
    after (((((((((stateAt 0x1000#64 0xEA220020).writeX 0#5 0xDEADDEADDEADDEAD#64).writeX 1#5 0xFFFFFFFFFFFFFFFF#64).writeX 2#5 0x7FFFFFFFFFFFFFFF#64).writeX 3#5 0xFFFFFFFF#64).writeX 4#5 0x8000000000000000#64).writeX 5#5 0x123456789ABCDEF0#64).writeX 6#5 0xF0F0F0F0F0F0F0F#64).setFlags ⟨false, false, true, true⟩)
      (fun t => t.readX 0#5 == 0x8000000000000000#64 && t.flags == ⟨true, false, false, false⟩ && t.pc == 0x1004#64 && t.err == .none) = true ∧
    after (((((((((stateAt 0x1000#64 0x6A210060).writeX 0#5 0xDEADDEADDEADDEAD#64).writeX 1#5 0xFFFFFFFFFFFFFFFF#64).writeX 2#5 0x7FFFFFFFFFFFFFFF#64).writeX 3#5 0xFFFFFFFF#64).writeX 4#5 0x8000000000000000#64).writeX 5#5 0x123456789ABCDEF0#64).writeX 6#5 0xF0F0F0F0F0F0F0F#64).setFlags ⟨true, false, true, true⟩)
      (fun t => t.readX 0#5 == 0x0#64 && t.flags == ⟨false, true, false, false⟩ && t.pc == 0x1004#64 && t.err == .none) = true := by decide
/-- spec/95_test_vectors.md STRB W2, [X1, #3], (by hand from rule R236), (by hand from rule R236). -/
theorem test_step_strb :
    after (withBytes (((stateAt 0x1000#64 0x39000C22).writeX 1#5 0x2000#64).writeX 2#5 0x1122334455667788#64) 0x2000#64 [0x88, 0x99, 0xAA, 0xBB, 0xCC, 0xDD, 0xEE, 0xFF, 0x00, 0x11, 0x22, 0x33, 0x44, 0x55, 0x66, 0x77, 0xF0, 0xE1, 0xD2, 0xC3, 0xB4, 0xA5, 0x96, 0x87, 0x78, 0x69, 0x5A, 0x4B, 0x3C, 0x2D, 0x1E, 0x0F])
      (fun t => t.pc == 0x1004#64 && bytesAt t 0x2003#64 [0x88] && t.err == .none) = true ∧
    after (((stateAt 0x1000#64 0x38001422).writeX 1#5 0x2000#64).writeX 2#5 0x1122334455667788#64)
      (fun t => t.pc == 0x1004#64 && t.readX 1#5 == 0x2001#64 && bytesAt t 0x2000#64 [0x88] && t.err == .none) = true ∧
    after (((stateAt 0x1000#64 0x381FFC22).writeX 1#5 0x2000#64).writeX 2#5 0x1122334455667788#64)
      (fun t => t.pc == 0x1004#64 && t.readX 1#5 == 0x1FFF#64 && bytesAt t 0x1FFF#64 [0x88] && t.err == .none) = true := by decide
/-- spec/95_test_vectors.md LDRB W2, [X1, #7], (by hand from rule R237), LDRB W2, [X1, #1]!. -/
theorem test_step_ldrb :
    after (withBytes (((stateAt 0x1000#64 0x39401C22).writeX 1#5 0x2000#64).writeX 2#5 0x1122334455667788#64) 0x2000#64 [0x88, 0x99, 0xAA, 0xBB, 0xCC, 0xDD, 0xEE, 0xFF, 0x00, 0x11, 0x22, 0x33, 0x44, 0x55, 0x66, 0x77, 0xF0, 0xE1, 0xD2, 0xC3, 0xB4, 0xA5, 0x96, 0x87, 0x78, 0x69, 0x5A, 0x4B, 0x3C, 0x2D, 0x1E, 0x0F])
      (fun t => t.readX 2#5 == 0xFF#64 && t.pc == 0x1004#64 && t.err == .none) = true ∧
    after (withBytes (((stateAt 0x1000#64 0x38401420).writeX 1#5 0x2000#64).writeX 0#5 0xFFFFFFFFFFFFFFFF#64) 0x2000#64 [0x88, 0x99, 0xAA, 0xBB, 0xCC, 0xDD, 0xEE, 0xFF, 0x00, 0x11, 0x22, 0x33, 0x44, 0x55, 0x66, 0x77, 0xF0, 0xE1, 0xD2, 0xC3, 0xB4, 0xA5, 0x96, 0x87, 0x78, 0x69, 0x5A, 0x4B, 0x3C, 0x2D, 0x1E, 0x0F])
      (fun t => t.pc == 0x1004#64 && t.readX 1#5 == 0x2001#64 && t.readX 0#5 == 0x88#64 && t.err == .none) = true ∧
    after (withBytes (((stateAt 0x1000#64 0x38401C22).writeX 1#5 0x2000#64).writeX 2#5 0x1122334455667788#64) 0x2000#64 [0x88, 0x99, 0xAA, 0xBB, 0xCC, 0xDD, 0xEE, 0xFF, 0x00, 0x11, 0x22, 0x33, 0x44, 0x55, 0x66, 0x77, 0xF0, 0xE1, 0xD2, 0xC3, 0xB4, 0xA5, 0x96, 0x87, 0x78, 0x69, 0x5A, 0x4B, 0x3C, 0x2D, 0x1E, 0x0F])
      (fun t => t.readX 1#5 == 0x2001#64 && t.readX 2#5 == 0x99#64 && t.pc == 0x1004#64 && t.err == .none) = true := by decide
/-- spec/95_test_vectors.md STRH W2, [X1, #2], (by hand from rule R238), (by hand from rule R238). -/
theorem test_step_strh :
    after (withBytes (((stateAt 0x1000#64 0x79000422).writeX 1#5 0x2000#64).writeX 2#5 0x1122334455667788#64) 0x2000#64 [0x88, 0x99, 0xAA, 0xBB, 0xCC, 0xDD, 0xEE, 0xFF, 0x00, 0x11, 0x22, 0x33, 0x44, 0x55, 0x66, 0x77, 0xF0, 0xE1, 0xD2, 0xC3, 0xB4, 0xA5, 0x96, 0x87, 0x78, 0x69, 0x5A, 0x4B, 0x3C, 0x2D, 0x1E, 0x0F])
      (fun t => t.pc == 0x1004#64 && bytesAt t 0x2002#64 [0x88, 0x77] && t.err == .none) = true ∧
    after (((stateAt 0x1000#64 0x78002422).writeX 1#5 0x2000#64).writeX 2#5 0x1122334455667788#64)
      (fun t => t.pc == 0x1004#64 && t.readX 1#5 == 0x2002#64 && bytesAt t 0x2000#64 [0x88, 0x77] && t.err == .none) = true ∧
    after (((stateAt 0x1000#64 0x781FEC22).writeX 1#5 0x2000#64).writeX 2#5 0x1122334455667788#64)
      (fun t => t.pc == 0x1004#64 && t.readX 1#5 == 0x1FFE#64 && bytesAt t 0x1FFE#64 [0x88, 0x77] && t.err == .none) = true := by decide
/-- spec/95_test_vectors.md LDRH W2, [X1, #6], LDRH W2, [X1], #2, (by hand from rule R239). -/
theorem test_step_ldrh :
    after (withBytes (((stateAt 0x1000#64 0x79400C22).writeX 1#5 0x2000#64).writeX 2#5 0x1122334455667788#64) 0x2000#64 [0x88, 0x99, 0xAA, 0xBB, 0xCC, 0xDD, 0xEE, 0xFF, 0x00, 0x11, 0x22, 0x33, 0x44, 0x55, 0x66, 0x77, 0xF0, 0xE1, 0xD2, 0xC3, 0xB4, 0xA5, 0x96, 0x87, 0x78, 0x69, 0x5A, 0x4B, 0x3C, 0x2D, 0x1E, 0x0F])
      (fun t => t.readX 2#5 == 0xFFEE#64 && t.pc == 0x1004#64 && t.err == .none) = true ∧
    after (withBytes (((stateAt 0x1000#64 0x78402422).writeX 1#5 0x2000#64).writeX 2#5 0x1122334455667788#64) 0x2000#64 [0x88, 0x99, 0xAA, 0xBB, 0xCC, 0xDD, 0xEE, 0xFF, 0x00, 0x11, 0x22, 0x33, 0x44, 0x55, 0x66, 0x77, 0xF0, 0xE1, 0xD2, 0xC3, 0xB4, 0xA5, 0x96, 0x87, 0x78, 0x69, 0x5A, 0x4B, 0x3C, 0x2D, 0x1E, 0x0F])
      (fun t => t.readX 1#5 == 0x2002#64 && t.readX 2#5 == 0x9988#64 && t.pc == 0x1004#64 && t.err == .none) = true ∧
    after (withBytes (((stateAt 0x1000#64 0x78402C20).writeX 1#5 0x2000#64).writeX 0#5 0xFFFFFFFFFFFFFFFF#64) 0x2000#64 [0x88, 0x99, 0xAA, 0xBB, 0xCC, 0xDD, 0xEE, 0xFF, 0x00, 0x11, 0x22, 0x33, 0x44, 0x55, 0x66, 0x77, 0xF0, 0xE1, 0xD2, 0xC3, 0xB4, 0xA5, 0x96, 0x87, 0x78, 0x69, 0x5A, 0x4B, 0x3C, 0x2D, 0x1E, 0x0F])
      (fun t => t.pc == 0x1004#64 && t.readX 1#5 == 0x2002#64 && t.readX 0#5 == 0xBBAA#64 && t.err == .none) = true := by decide
/-- spec/95_test_vectors.md STR W2, [X1, #4], STR W2, [X1], #4, (by hand from rule R240). -/
theorem test_step_str_w :
    after (withBytes (((stateAt 0x1000#64 0xB9000422).writeX 1#5 0x2000#64).writeX 2#5 0x1122334455667788#64) 0x2000#64 [0x88, 0x99, 0xAA, 0xBB, 0xCC, 0xDD, 0xEE, 0xFF, 0x00, 0x11, 0x22, 0x33, 0x44, 0x55, 0x66, 0x77, 0xF0, 0xE1, 0xD2, 0xC3, 0xB4, 0xA5, 0x96, 0x87, 0x78, 0x69, 0x5A, 0x4B, 0x3C, 0x2D, 0x1E, 0x0F])
      (fun t => t.pc == 0x1004#64 && bytesAt t 0x2004#64 [0x88, 0x77, 0x66, 0x55] && t.err == .none) = true ∧
    after (withBytes (((stateAt 0x1000#64 0xB8004422).writeX 1#5 0x2000#64).writeX 2#5 0x1122334455667788#64) 0x2000#64 [0x88, 0x99, 0xAA, 0xBB, 0xCC, 0xDD, 0xEE, 0xFF, 0x00, 0x11, 0x22, 0x33, 0x44, 0x55, 0x66, 0x77, 0xF0, 0xE1, 0xD2, 0xC3, 0xB4, 0xA5, 0x96, 0x87, 0x78, 0x69, 0x5A, 0x4B, 0x3C, 0x2D, 0x1E, 0x0F])
      (fun t => t.readX 1#5 == 0x2004#64 && t.pc == 0x1004#64 && bytesAt t 0x2000#64 [0x88, 0x77, 0x66, 0x55] && t.err == .none) = true ∧
    after (((stateAt 0x1000#64 0xB81FCC22).writeX 1#5 0x2000#64).writeX 2#5 0x1122334455667788#64)
      (fun t => t.pc == 0x1004#64 && t.readX 1#5 == 0x1FFC#64 && bytesAt t 0x1FFC#64 [0x88, 0x77, 0x66, 0x55] && t.err == .none) = true := by decide
/-- spec/95_test_vectors.md LDR W2, [X1, #4], (by hand from rule R241), LDR W2, [X1, #-4]!. -/
theorem test_step_ldr_w :
    after (withBytes (((stateAt 0x1000#64 0xB9400422).writeX 1#5 0x2000#64).writeX 2#5 0x1122334455667788#64) 0x2000#64 [0x88, 0x99, 0xAA, 0xBB, 0xCC, 0xDD, 0xEE, 0xFF, 0x00, 0x11, 0x22, 0x33, 0x44, 0x55, 0x66, 0x77, 0xF0, 0xE1, 0xD2, 0xC3, 0xB4, 0xA5, 0x96, 0x87, 0x78, 0x69, 0x5A, 0x4B, 0x3C, 0x2D, 0x1E, 0x0F])
      (fun t => t.readX 2#5 == 0xFFEEDDCC#64 && t.pc == 0x1004#64 && t.err == .none) = true ∧
    after (withBytes (((stateAt 0x1000#64 0xB8404420).writeX 1#5 0x2000#64).writeX 0#5 0xFFFFFFFFFFFFFFFF#64) 0x2000#64 [0x88, 0x99, 0xAA, 0xBB, 0xCC, 0xDD, 0xEE, 0xFF, 0x00, 0x11, 0x22, 0x33, 0x44, 0x55, 0x66, 0x77, 0xF0, 0xE1, 0xD2, 0xC3, 0xB4, 0xA5, 0x96, 0x87, 0x78, 0x69, 0x5A, 0x4B, 0x3C, 0x2D, 0x1E, 0x0F])
      (fun t => t.pc == 0x1004#64 && t.readX 1#5 == 0x2004#64 && t.readX 0#5 == 0xBBAA9988#64 && t.err == .none) = true ∧
    after (withBytes (((stateAt 0x1000#64 0xB85FCC22).writeX 1#5 0x2008#64).writeX 2#5 0xFFFFFFFFFFFFFFFF#64) 0x2000#64 [0x88, 0x99, 0xAA, 0xBB, 0xCC, 0xDD, 0xEE, 0xFF, 0x00, 0x11, 0x22, 0x33, 0x44, 0x55, 0x66, 0x77, 0xF0, 0xE1, 0xD2, 0xC3, 0xB4, 0xA5, 0x96, 0x87, 0x78, 0x69, 0x5A, 0x4B, 0x3C, 0x2D, 0x1E, 0x0F])
      (fun t => t.readX 1#5 == 0x2004#64 && t.readX 2#5 == 0xFFEEDDCC#64 && t.pc == 0x1004#64 && t.err == .none) = true := by decide
/-- spec/95_test_vectors.md STR X2, [X1, #8], (by hand from rule R242), STR X2, [X1, #-8]!. -/
theorem test_step_str_x :
    after (withBytes (((stateAt 0x1000#64 0xF9000422).writeX 1#5 0x2000#64).writeX 2#5 0x1122334455667788#64) 0x2000#64 [0x88, 0x99, 0xAA, 0xBB, 0xCC, 0xDD, 0xEE, 0xFF, 0x00, 0x11, 0x22, 0x33, 0x44, 0x55, 0x66, 0x77, 0xF0, 0xE1, 0xD2, 0xC3, 0xB4, 0xA5, 0x96, 0x87, 0x78, 0x69, 0x5A, 0x4B, 0x3C, 0x2D, 0x1E, 0x0F])
      (fun t => t.pc == 0x1004#64 && bytesAt t 0x2008#64 [0x88, 0x77, 0x66, 0x55, 0x44, 0x33, 0x22, 0x11] && t.err == .none) = true ∧
    after (((stateAt 0x1000#64 0xF8008422).writeX 1#5 0x2000#64).writeX 2#5 0x1122334455667788#64)
      (fun t => t.pc == 0x1004#64 && t.readX 1#5 == 0x2008#64 && bytesAt t 0x2000#64 [0x88, 0x77, 0x66, 0x55, 0x44, 0x33, 0x22, 0x11] && t.err == .none) = true ∧
    after (withBytes (((stateAt 0x1000#64 0xF81F8C22).writeX 1#5 0x2010#64).writeX 2#5 0x1122334455667788#64) 0x2000#64 [0x88, 0x99, 0xAA, 0xBB, 0xCC, 0xDD, 0xEE, 0xFF, 0x00, 0x11, 0x22, 0x33, 0x44, 0x55, 0x66, 0x77, 0xF0, 0xE1, 0xD2, 0xC3, 0xB4, 0xA5, 0x96, 0x87, 0x78, 0x69, 0x5A, 0x4B, 0x3C, 0x2D, 0x1E, 0x0F])
      (fun t => t.readX 1#5 == 0x2008#64 && t.pc == 0x1004#64 && bytesAt t 0x2008#64 [0x88, 0x77, 0x66, 0x55, 0x44, 0x33, 0x22, 0x11] && t.err == .none) = true := by decide
/-- spec/95_test_vectors.md LDR X2, [X1, #8], LDR X2, [X1], #-256, LDR X2, [X1, #255]!. -/
theorem test_step_ldr_x :
    after (withBytes (((stateAt 0x1000#64 0xF9400422).writeX 1#5 0x2000#64).writeX 2#5 0x1122334455667788#64) 0x2000#64 [0x88, 0x99, 0xAA, 0xBB, 0xCC, 0xDD, 0xEE, 0xFF, 0x00, 0x11, 0x22, 0x33, 0x44, 0x55, 0x66, 0x77, 0xF0, 0xE1, 0xD2, 0xC3, 0xB4, 0xA5, 0x96, 0x87, 0x78, 0x69, 0x5A, 0x4B, 0x3C, 0x2D, 0x1E, 0x0F])
      (fun t => t.readX 2#5 == 0x7766554433221100#64 && t.pc == 0x1004#64 && t.err == .none) = true ∧
    after (withBytes (((stateAt 0x1000#64 0xF8500422).writeX 1#5 0x2000#64).writeX 2#5 0x1122334455667788#64) 0x2000#64 [0x88, 0x99, 0xAA, 0xBB, 0xCC, 0xDD, 0xEE, 0xFF, 0x00, 0x11, 0x22, 0x33, 0x44, 0x55, 0x66, 0x77, 0xF0, 0xE1, 0xD2, 0xC3, 0xB4, 0xA5, 0x96, 0x87, 0x78, 0x69, 0x5A, 0x4B, 0x3C, 0x2D, 0x1E, 0x0F])
      (fun t => t.readX 1#5 == 0x1F00#64 && t.readX 2#5 == 0xFFEEDDCCBBAA9988#64 && t.pc == 0x1004#64 && t.err == .none) = true ∧
    after (withBytes (((stateAt 0x1000#64 0xF84FFC22).writeX 1#5 0x1F0A#64).writeX 2#5 0x5#64) 0x2000#64 [0x88, 0x99, 0xAA, 0xBB, 0xCC, 0xDD, 0xEE, 0xFF, 0x00, 0x11, 0x22, 0x33, 0x44, 0x55, 0x66, 0x77, 0xF0, 0xE1, 0xD2, 0xC3, 0xB4, 0xA5, 0x96, 0x87, 0x78, 0x69, 0x5A, 0x4B, 0x3C, 0x2D, 0x1E, 0x0F])
      (fun t => t.readX 1#5 == 0x2009#64 && t.readX 2#5 == 0xF077665544332211#64 && t.pc == 0x1004#64 && t.err == .none) = true := by decide
/-- spec/95_test_vectors.md STR B2, [X1], (by hand from rule R244), (by hand from rule R244). -/
theorem test_step_str_simd_b :
    after (withBytes ((((stateAt 0x1000#64 0x3D000022).writeX 1#5 0x2000#64).writeX 2#5 0x1122334455667788#64).writeV 2#5 0xFFEEDDCCBBAA99887766554433221100#128) 0x2000#64 [0x88, 0x99, 0xAA, 0xBB, 0xCC, 0xDD, 0xEE, 0xFF, 0x00, 0x11, 0x22, 0x33, 0x44, 0x55, 0x66, 0x77, 0xF0, 0xE1, 0xD2, 0xC3, 0xB4, 0xA5, 0x96, 0x87, 0x78, 0x69, 0x5A, 0x4B, 0x3C, 0x2D, 0x1E, 0x0F])
      (fun t => t.pc == 0x1004#64 && bytesAt t 0x2000#64 [0x00] && t.err == .none) = true ∧
    after (((stateAt 0x1000#64 0x3C001422).writeX 1#5 0x2000#64).writeV 2#5 0xF0E0D0C0B0A09080706050403020100#128)
      (fun t => t.pc == 0x1004#64 && t.readX 1#5 == 0x2001#64 && bytesAt t 0x2000#64 [0x00] && t.err == .none) = true ∧
    after (((stateAt 0x1000#64 0x3C1FFC22).writeX 1#5 0x2000#64).writeV 2#5 0xF0E0D0C0B0A09080706050403020100#128)
      (fun t => t.pc == 0x1004#64 && t.readX 1#5 == 0x1FFF#64 && bytesAt t 0x1FFF#64 [0x00] && t.err == .none) = true := by decide
/-- spec/95_test_vectors.md LDR B2, [X1, #31], (LDR B1, [X1], #8), (by hand from rule R245). -/
theorem test_step_ldr_simd_b :
    after (withBytes ((((stateAt 0x1000#64 0x3D407C22).writeX 1#5 0x2000#64).writeX 2#5 0x1122334455667788#64).writeV 2#5 0xFFEEDDCCBBAA99887766554433221100#128) 0x2000#64 [0x88, 0x99, 0xAA, 0xBB, 0xCC, 0xDD, 0xEE, 0xFF, 0x00, 0x11, 0x22, 0x33, 0x44, 0x55, 0x66, 0x77, 0xF0, 0xE1, 0xD2, 0xC3, 0xB4, 0xA5, 0x96, 0x87, 0x78, 0x69, 0x5A, 0x4B, 0x3C, 0x2D, 0x1E, 0x0F])
      (fun t => t.readV 2#5 == 0xF#128 && t.pc == 0x1004#64 && t.err == .none) = true ∧
    after (withBytes ((((stateAt 0x1000#64 0x3C408421).writeX 1#5 0x2000#64).writeX 2#5 0x1122334455667788#64).writeXSP 31#5 0x2000#64) 0x2000#64 [0x88, 0x99, 0xAA, 0xBB, 0xCC, 0xDD, 0xEE, 0xFF, 0x00, 0x11, 0x22, 0x33, 0x44, 0x55, 0x66, 0x77, 0xF0, 0xE1, 0xD2, 0xC3, 0xB4, 0xA5, 0x96, 0x87, 0x78, 0x69, 0x5A, 0x4B, 0x3C, 0x2D, 0x1E, 0x0F])
      (fun t => t.readX 1#5 == 0x2008#64 && t.readV 1#5 == 0x88#128 && t.pc == 0x1004#64 && t.err == .none) = true ∧
    after (withBytes (((stateAt 0x1000#64 0x3C401C20).writeX 1#5 0x2000#64).writeV 0#5 0xFFFFFFFFFFFFFFFF#128) 0x2000#64 [0x88, 0x99, 0xAA, 0xBB, 0xCC, 0xDD, 0xEE, 0xFF, 0x00, 0x11, 0x22, 0x33, 0x44, 0x55, 0x66, 0x77, 0xF0, 0xE1, 0xD2, 0xC3, 0xB4, 0xA5, 0x96, 0x87, 0x78, 0x69, 0x5A, 0x4B, 0x3C, 0x2D, 0x1E, 0x0F])
      (fun t => t.pc == 0x1004#64 && t.readX 1#5 == 0x2001#64 && t.readV 0#5 == 0x99#128 && t.err == .none) = true := by decide
/-- spec/95_test_vectors.md STR H2, [X1, #2], (by hand from rule R246), (by hand from rule R246). -/
theorem test_step_str_simd_h :
    after (withBytes ((((stateAt 0x1000#64 0x7D000422).writeX 1#5 0x2000#64).writeX 2#5 0x1122334455667788#64).writeV 2#5 0xFFEEDDCCBBAA99887766554433221100#128) 0x2000#64 [0x88, 0x99, 0xAA, 0xBB, 0xCC, 0xDD, 0xEE, 0xFF, 0x00, 0x11, 0x22, 0x33, 0x44, 0x55, 0x66, 0x77, 0xF0, 0xE1, 0xD2, 0xC3, 0xB4, 0xA5, 0x96, 0x87, 0x78, 0x69, 0x5A, 0x4B, 0x3C, 0x2D, 0x1E, 0x0F])
      (fun t => t.pc == 0x1004#64 && bytesAt t 0x2002#64 [0x00, 0x11] && t.err == .none) = true ∧
    after (((stateAt 0x1000#64 0x7C002422).writeX 1#5 0x2000#64).writeV 2#5 0xF0E0D0C0B0A09080706050403020100#128)
      (fun t => t.pc == 0x1004#64 && t.readX 1#5 == 0x2002#64 && bytesAt t 0x2000#64 [0x00, 0x01] && t.err == .none) = true ∧
    after (((stateAt 0x1000#64 0x7C1FEC22).writeX 1#5 0x2000#64).writeV 2#5 0xF0E0D0C0B0A09080706050403020100#128)
      (fun t => t.pc == 0x1004#64 && t.readX 1#5 == 0x1FFE#64 && bytesAt t 0x1FFE#64 [0x00, 0x01] && t.err == .none) = true := by decide
/-- spec/95_test_vectors.md LDR H2, [X1, #30], (by hand from rule R247), (by hand from rule R247). -/
theorem test_step_ldr_simd_h :
    after (withBytes ((((stateAt 0x1000#64 0x7D403C22).writeX 1#5 0x2000#64).writeX 2#5 0x1122334455667788#64).writeV 2#5 0xFFEEDDCCBBAA99887766554433221100#128) 0x2000#64 [0x88, 0x99, 0xAA, 0xBB, 0xCC, 0xDD, 0xEE, 0xFF, 0x00, 0x11, 0x22, 0x33, 0x44, 0x55, 0x66, 0x77, 0xF0, 0xE1, 0xD2, 0xC3, 0xB4, 0xA5, 0x96, 0x87, 0x78, 0x69, 0x5A, 0x4B, 0x3C, 0x2D, 0x1E, 0x0F])
      (fun t => t.readV 2#5 == 0xF1E#128 && t.pc == 0x1004#64 && t.err == .none) = true ∧
    after (withBytes (((stateAt 0x1000#64 0x7C402420).writeX 1#5 0x2000#64).writeV 0#5 0xFFFFFFFFFFFFFFFF#128) 0x2000#64 [0x88, 0x99, 0xAA, 0xBB, 0xCC, 0xDD, 0xEE, 0xFF, 0x00, 0x11, 0x22, 0x33, 0x44, 0x55, 0x66, 0x77, 0xF0, 0xE1, 0xD2, 0xC3, 0xB4, 0xA5, 0x96, 0x87, 0x78, 0x69, 0x5A, 0x4B, 0x3C, 0x2D, 0x1E, 0x0F])
      (fun t => t.pc == 0x1004#64 && t.readX 1#5 == 0x2002#64 && t.readV 0#5 == 0x9988#128 && t.err == .none) = true ∧
    after (withBytes (((stateAt 0x1000#64 0x7C402C20).writeX 1#5 0x2000#64).writeV 0#5 0xFFFFFFFFFFFFFFFF#128) 0x2000#64 [0x88, 0x99, 0xAA, 0xBB, 0xCC, 0xDD, 0xEE, 0xFF, 0x00, 0x11, 0x22, 0x33, 0x44, 0x55, 0x66, 0x77, 0xF0, 0xE1, 0xD2, 0xC3, 0xB4, 0xA5, 0x96, 0x87, 0x78, 0x69, 0x5A, 0x4B, 0x3C, 0x2D, 0x1E, 0x0F])
      (fun t => t.pc == 0x1004#64 && t.readX 1#5 == 0x2002#64 && t.readV 0#5 == 0xBBAA#128 && t.err == .none) = true := by decide
/-- spec/95_test_vectors.md STR S2, [X1, #4], (by hand from rule R248), (by hand from rule R248). -/
theorem test_step_str_simd_s :
    after (withBytes ((((stateAt 0x1000#64 0xBD000422).writeX 1#5 0x2000#64).writeX 2#5 0x1122334455667788#64).writeV 2#5 0xFFEEDDCCBBAA99887766554433221100#128) 0x2000#64 [0x88, 0x99, 0xAA, 0xBB, 0xCC, 0xDD, 0xEE, 0xFF, 0x00, 0x11, 0x22, 0x33, 0x44, 0x55, 0x66, 0x77, 0xF0, 0xE1, 0xD2, 0xC3, 0xB4, 0xA5, 0x96, 0x87, 0x78, 0x69, 0x5A, 0x4B, 0x3C, 0x2D, 0x1E, 0x0F])
      (fun t => t.pc == 0x1004#64 && bytesAt t 0x2004#64 [0x00, 0x11, 0x22, 0x33] && t.err == .none) = true ∧
    after (((stateAt 0x1000#64 0xBC004422).writeX 1#5 0x2000#64).writeV 2#5 0xF0E0D0C0B0A09080706050403020100#128)
      (fun t => t.pc == 0x1004#64 && t.readX 1#5 == 0x2004#64 && bytesAt t 0x2000#64 [0x00, 0x01, 0x02, 0x03] && t.err == .none) = true ∧
    after (((stateAt 0x1000#64 0xBC1FCC22).writeX 1#5 0x2000#64).writeV 2#5 0xF0E0D0C0B0A09080706050403020100#128)
      (fun t => t.pc == 0x1004#64 && t.readX 1#5 == 0x1FFC#64 && bytesAt t 0x1FFC#64 [0x00, 0x01, 0x02, 0x03] && t.err == .none) = true := by decide
/-- spec/95_test_vectors.md LDR S2, [X1, #28], LDR S31, [SP], #4, (by hand from rule R249). -/
theorem test_step_ldr_simd_s :
    after (withBytes ((((stateAt 0x1000#64 0xBD401C22).writeX 1#5 0x2000#64).writeX 2#5 0x1122334455667788#64).writeV 2#5 0xFFEEDDCCBBAA99887766554433221100#128) 0x2000#64 [0x88, 0x99, 0xAA, 0xBB, 0xCC, 0xDD, 0xEE, 0xFF, 0x00, 0x11, 0x22, 0x33, 0x44, 0x55, 0x66, 0x77, 0xF0, 0xE1, 0xD2, 0xC3, 0xB4, 0xA5, 0x96, 0x87, 0x78, 0x69, 0x5A, 0x4B, 0x3C, 0x2D, 0x1E, 0x0F])
      (fun t => t.readV 2#5 == 0xF1E2D3C#128 && t.pc == 0x1004#64 && t.err == .none) = true ∧
    after (withBytes (((((stateAt 0x1000#64 0xBC4047FF).writeX 1#5 0x2000#64).writeX 2#5 0x1122334455667788#64).writeXSP 31#5 0x2010#64).writeV 31#5 0xFFFFFFFFFFFFFFFFFFFFFFFFFFFFFFFF#128) 0x2000#64 [0x88, 0x99, 0xAA, 0xBB, 0xCC, 0xDD, 0xEE, 0xFF, 0x00, 0x11, 0x22, 0x33, 0x44, 0x55, 0x66, 0x77, 0xF0, 0xE1, 0xD2, 0xC3, 0xB4, 0xA5, 0x96, 0x87, 0x78, 0x69, 0x5A, 0x4B, 0x3C, 0x2D, 0x1E, 0x0F])
      (fun t => t.sp == 0x2014#64 && t.readV 31#5 == 0xC3D2E1F0#128 && t.pc == 0x1004#64 && t.err == .none) = true ∧
    after (withBytes (((stateAt 0x1000#64 0xBC404C20).writeX 1#5 0x2000#64).writeV 0#5 0xFFFFFFFFFFFFFFFF#128) 0x2000#64 [0x88, 0x99, 0xAA, 0xBB, 0xCC, 0xDD, 0xEE, 0xFF, 0x00, 0x11, 0x22, 0x33, 0x44, 0x55, 0x66, 0x77, 0xF0, 0xE1, 0xD2, 0xC3, 0xB4, 0xA5, 0x96, 0x87, 0x78, 0x69, 0x5A, 0x4B, 0x3C, 0x2D, 0x1E, 0x0F])
      (fun t => t.pc == 0x1004#64 && t.readX 1#5 == 0x2004#64 && t.readV 0#5 == 0xFFEEDDCC#128 && t.err == .none) = true := by decide
/-- spec/95_test_vectors.md STR D2, [X1, #8], STR D2, [X1], #-8, (by hand from rule R250). -/
theorem test_step_str_simd_d :
    after (withBytes ((((stateAt 0x1000#64 0xFD000422).writeX 1#5 0x2000#64).writeX 2#5 0x1122334455667788#64).writeV 2#5 0xFFEEDDCCBBAA99887766554433221100#128) 0x2000#64 [0x88, 0x99, 0xAA, 0xBB, 0xCC, 0xDD, 0xEE, 0xFF, 0x00, 0x11, 0x22, 0x33, 0x44, 0x55, 0x66, 0x77, 0xF0, 0xE1, 0xD2, 0xC3, 0xB4, 0xA5, 0x96, 0x87, 0x78, 0x69, 0x5A, 0x4B, 0x3C, 0x2D, 0x1E, 0x0F])
      (fun t => t.pc == 0x1004#64 && bytesAt t 0x2008#64 [0x00, 0x11, 0x22, 0x33, 0x44, 0x55, 0x66, 0x77] && t.err == .none) = true ∧
    after (withBytes ((((stateAt 0x1000#64 0xFC1F8422).writeX 1#5 0x2000#64).writeX 2#5 0x1122334455667788#64).writeV 2#5 0xFFEEDDCCBBAA99887766554433221100#128) 0x2000#64 [0x88, 0x99, 0xAA, 0xBB, 0xCC, 0xDD, 0xEE, 0xFF, 0x00, 0x11, 0x22, 0x33, 0x44, 0x55, 0x66, 0x77, 0xF0, 0xE1, 0xD2, 0xC3, 0xB4, 0xA5, 0x96, 0x87, 0x78, 0x69, 0x5A, 0x4B, 0x3C, 0x2D, 0x1E, 0x0F])
      (fun t => t.readX 1#5 == 0x1FF8#64 && t.pc == 0x1004#64 && bytesAt t 0x2000#64 [0x00, 0x11, 0x22, 0x33, 0x44, 0x55, 0x66, 0x77] && t.err == .none) = true ∧
    after (((stateAt 0x1000#64 0xFC1F8C22).writeX 1#5 0x2000#64).writeV 2#5 0xF0E0D0C0B0A09080706050403020100#128)
      (fun t => t.pc == 0x1004#64 && t.readX 1#5 == 0x1FF8#64 && bytesAt t 0x1FF8#64 [0x00, 0x01, 0x02, 0x03, 0x04, 0x05, 0x06, 0x07] && t.err == .none) = true := by decide
/-- spec/95_test_vectors.md LDR D2, [X1, #24], (by hand from rule R251), LDR D1, [X1, #8]!. -/
theorem test_step_ldr_simd_d :
    after (withBytes ((((stateAt 0x1000#64 0xFD400C22).writeX 1#5 0x2000#64).writeX 2#5 0x1122334455667788#64).writeV 2#5 0xFFEEDDCCBBAA99887766554433221100#128) 0x2000#64 [0x88, 0x99, 0xAA, 0xBB, 0xCC, 0xDD, 0xEE, 0xFF, 0x00, 0x11, 0x22, 0x33, 0x44, 0x55, 0x66, 0x77, 0xF0, 0xE1, 0xD2, 0xC3, 0xB4, 0xA5, 0x96, 0x87, 0x78, 0x69, 0x5A, 0x4B, 0x3C, 0x2D, 0x1E, 0x0F])
      (fun t => t.readV 2#5 == 0xF1E2D3C4B5A6978#128 && t.pc == 0x1004#64 && t.err == .none) = true ∧
    after (withBytes (((stateAt 0x1000#64 0xFC408420).writeX 1#5 0x2000#64).writeV 0#5 0xFFFFFFFFFFFFFFFF#128) 0x2000#64 [0x88, 0x99, 0xAA, 0xBB, 0xCC, 0xDD, 0xEE, 0xFF, 0x00, 0x11, 0x22, 0x33, 0x44, 0x55, 0x66, 0x77, 0xF0, 0xE1, 0xD2, 0xC3, 0xB4, 0xA5, 0x96, 0x87, 0x78, 0x69, 0x5A, 0x4B, 0x3C, 0x2D, 0x1E, 0x0F])
      (fun t => t.pc == 0x1004#64 && t.readX 1#5 == 0x2008#64 && t.readV 0#5 == 0xFFEEDDCCBBAA9988#128 && t.err == .none) = true ∧
    after (withBytes ((((stateAt 0x1000#64 0xFC408C21).writeX 1#5 0x2000#64).writeX 2#5 0x1122334455667788#64).writeV 1#5 0xFFFFFFFFFFFFFFFFFFFFFFFFFFFFFFFF#128) 0x2000#64 [0x88, 0x99, 0xAA, 0xBB, 0xCC, 0xDD, 0xEE, 0xFF, 0x00, 0x11, 0x22, 0x33, 0x44, 0x55, 0x66, 0x77, 0xF0, 0xE1, 0xD2, 0xC3, 0xB4, 0xA5, 0x96, 0x87, 0x78, 0x69, 0x5A, 0x4B, 0x3C, 0x2D, 0x1E, 0x0F])
      (fun t => t.readX 1#5 == 0x2008#64 && t.readV 1#5 == 0x7766554433221100#128 && t.pc == 0x1004#64 && t.err == .none) = true := by decide
/-- spec/95_test_vectors.md STR Q2, [X1, #16], STR Q1, [X1], #16, STR Q2, [X1, #-16]!. -/
theorem test_step_str_simd_q :
    after (withBytes ((((stateAt 0x1000#64 0x3D800422).writeX 1#5 0x2000#64).writeX 2#5 0x1122334455667788#64).writeV 2#5 0xFFEEDDCCBBAA99887766554433221100#128) 0x2000#64 [0x88, 0x99, 0xAA, 0xBB, 0xCC, 0xDD, 0xEE, 0xFF, 0x00, 0x11, 0x22, 0x33, 0x44, 0x55, 0x66, 0x77, 0xF0, 0xE1, 0xD2, 0xC3, 0xB4, 0xA5, 0x96, 0x87, 0x78, 0x69, 0x5A, 0x4B, 0x3C, 0x2D, 0x1E, 0x0F])
      (fun t => t.pc == 0x1004#64 && bytesAt t 0x2010#64 [0x00, 0x11, 0x22, 0x33, 0x44, 0x55, 0x66, 0x77, 0x88, 0x99, 0xAA, 0xBB, 0xCC, 0xDD, 0xEE, 0xFF] && t.err == .none) = true ∧
    after (withBytes ((((stateAt 0x1000#64 0x3C810421).writeX 1#5 0x2000#64).writeX 2#5 0x1122334455667788#64).writeV 1#5 0xFFEEDDCCBBAA99887766554433221100#128) 0x2000#64 [0x88, 0x99, 0xAA, 0xBB, 0xCC, 0xDD, 0xEE, 0xFF, 0x00, 0x11, 0x22, 0x33, 0x44, 0x55, 0x66, 0x77, 0xF0, 0xE1, 0xD2, 0xC3, 0xB4, 0xA5, 0x96, 0x87, 0x78, 0x69, 0x5A, 0x4B, 0x3C, 0x2D, 0x1E, 0x0F])
      (fun t => t.readX 1#5 == 0x2010#64 && t.pc == 0x1004#64 && bytesAt t 0x2000#64 [0x00, 0x11, 0x22, 0x33, 0x44, 0x55, 0x66, 0x77, 0x88, 0x99, 0xAA, 0xBB, 0xCC, 0xDD, 0xEE, 0xFF] && t.err == .none) = true ∧
    after (withBytes (((stateAt 0x1000#64 0x3C9F0C22).writeX 1#5 0x2010#64).writeV 2#5 0xFFEEDDCCBBAA99887766554433221100#128) 0x2000#64 [0x88, 0x99, 0xAA, 0xBB, 0xCC, 0xDD, 0xEE, 0xFF, 0x00, 0x11, 0x22, 0x33, 0x44, 0x55, 0x66, 0x77, 0xF0, 0xE1, 0xD2, 0xC3, 0xB4, 0xA5, 0x96, 0x87, 0x78, 0x69, 0x5A, 0x4B, 0x3C, 0x2D, 0x1E, 0x0F])
      (fun t => t.readX 1#5 == 0x2000#64 && t.pc == 0x1004#64 && bytesAt t 0x2000#64 [0x00, 0x11, 0x22, 0x33, 0x44, 0x55, 0x66, 0x77, 0x88, 0x99, 0xAA, 0xBB, 0xCC, 0xDD, 0xEE, 0xFF] && t.err == .none) = true := by decide
/-- spec/95_test_vectors.md LDR Q2, [X1, #16], LDR Q2, [X1], #16, LDR Q2, [X1, #1]!. -/
theorem test_step_ldr_simd_q :
    after (withBytes ((((stateAt 0x1000#64 0x3DC00422).writeX 1#5 0x2000#64).writeX 2#5 0x1122334455667788#64).writeV 2#5 0xFFEEDDCCBBAA99887766554433221100#128) 0x2000#64 [0x88, 0x99, 0xAA, 0xBB, 0xCC, 0xDD, 0xEE, 0xFF, 0x00, 0x11, 0x22, 0x33, 0x44, 0x55, 0x66, 0x77, 0xF0, 0xE1, 0xD2, 0xC3, 0xB4, 0xA5, 0x96, 0x87, 0x78, 0x69, 0x5A, 0x4B, 0x3C, 0x2D, 0x1E, 0x0F])
      (fun t => t.readV 2#5 == 0xF1E2D3C4B5A69788796A5B4C3D2E1F0#128 && t.pc == 0x1004#64 && t.err == .none) = true ∧
    after (withBytes ((((stateAt 0x1000#64 0x3CC10422).writeX 1#5 0x2000#64).writeX 2#5 0x1122334455667788#64).writeV 2#5 0xFFEEDDCCBBAA99887766554433221100#128) 0x2000#64 [0x88, 0x99, 0xAA, 0xBB, 0xCC, 0xDD, 0xEE, 0xFF, 0x00, 0x11, 0x22, 0x33, 0x44, 0x55, 0x66, 0x77, 0xF0, 0xE1, 0xD2, 0xC3, 0xB4, 0xA5, 0x96, 0x87, 0x78, 0x69, 0x5A, 0x4B, 0x3C, 0x2D, 0x1E, 0x0F])
      (fun t => t.readX 1#5 == 0x2010#64 && t.readV 2#5 == 0x7766554433221100FFEEDDCCBBAA9988#128 && t.pc == 0x1004#64 && t.err == .none) = true ∧
    after (withBytes ((((stateAt 0x1000#64 0x3CC01C22).writeX 1#5 0x2000#64).writeX 2#5 0x1122334455667788#64).writeV 2#5 0xFFEEDDCCBBAA99887766554433221100#128) 0x2000#64 [0x88, 0x99, 0xAA, 0xBB, 0xCC, 0xDD, 0xEE, 0xFF, 0x00, 0x11, 0x22, 0x33, 0x44, 0x55, 0x66, 0x77, 0xF0, 0xE1, 0xD2, 0xC3, 0xB4, 0xA5, 0x96, 0x87, 0x78, 0x69, 0x5A, 0x4B, 0x3C, 0x2D, 0x1E, 0x0F])
      (fun t => t.readX 1#5 == 0x2001#64 && t.readV 2#5 == 0xF07766554433221100FFEEDDCCBBAA99#128 && t.pc == 0x1004#64 && t.err == .none) = true := by decide
/-! ## Faults: only the error slot changes -/

/-- The step faults with this kind and changes nothing else. -/
def faults (s : State) (k : FaultKind) : Bool :=
  after s (fun t => t.err.kind == some k && decide ({ t with err := .none } = s))

/-- spec/95_test_vectors.md `(ADD V0.1D reserved)`, `(LDR X1, [X1], #8)`, `(STR X1, [X1, #8]!)`, `(LDRB W1, [X1], #1)`, `(V=1 size=01 opc=11)`, `(V=1 size=11 opc=10)`, `(V=1 size=10 opc=11)`, `(move wide opc=01, sf=0)`, `(move wide opc=01, sf=1)`, `(MOVZ W, hw=10)`, `(MOVN W, hw=11)`, `(MOVK W, hw=10)`, `(ADD X, shift=11)`, `(SUBS W, imm6=63)`. -/
theorem test_faults_illegal :
    faults ((((stateAt 0x1000#64 0x0EE28420).writeV 0#5 0x5#128).writeV 1#5 0x80FF7F01FFFFFFFF00000000FFFF00FF#128).writeV 2#5 0x8001810100000001FFFFFFFF000100FF#128) .illegal = true ∧
    faults (withBytes ((((stateAt 0x1000#64 0xF8408421).writeX 1#5 0x2000#64).writeX 2#5 0x1122334455667788#64).writeXSP 31#5 0x2000#64) 0x2000#64 [0x88, 0x99, 0xAA, 0xBB, 0xCC, 0xDD, 0xEE, 0xFF, 0x00, 0x11, 0x22, 0x33, 0x44, 0x55, 0x66, 0x77, 0xF0, 0xE1, 0xD2, 0xC3, 0xB4, 0xA5, 0x96, 0x87, 0x78, 0x69, 0x5A, 0x4B, 0x3C, 0x2D, 0x1E, 0x0F]) .illegal = true ∧
    faults (withBytes ((((stateAt 0x1000#64 0xF8008C21).writeX 1#5 0x2000#64).writeX 2#5 0x1122334455667788#64).writeXSP 31#5 0x2000#64) 0x2000#64 [0x88, 0x99, 0xAA, 0xBB, 0xCC, 0xDD, 0xEE, 0xFF, 0x00, 0x11, 0x22, 0x33, 0x44, 0x55, 0x66, 0x77, 0xF0, 0xE1, 0xD2, 0xC3, 0xB4, 0xA5, 0x96, 0x87, 0x78, 0x69, 0x5A, 0x4B, 0x3C, 0x2D, 0x1E, 0x0F]) .illegal = true ∧
    faults (withBytes ((((stateAt 0x1000#64 0x38401421).writeX 1#5 0x2000#64).writeX 2#5 0x1122334455667788#64).writeXSP 31#5 0x2000#64) 0x2000#64 [0x88, 0x99, 0xAA, 0xBB, 0xCC, 0xDD, 0xEE, 0xFF, 0x00, 0x11, 0x22, 0x33, 0x44, 0x55, 0x66, 0x77, 0xF0, 0xE1, 0xD2, 0xC3, 0xB4, 0xA5, 0x96, 0x87, 0x78, 0x69, 0x5A, 0x4B, 0x3C, 0x2D, 0x1E, 0x0F]) .illegal = true ∧
    faults (withBytes ((((stateAt 0x1000#64 0x7DC00022).writeX 1#5 0x2000#64).writeX 2#5 0x1122334455667788#64).writeXSP 31#5 0x2000#64) 0x2000#64 [0x88, 0x99, 0xAA, 0xBB, 0xCC, 0xDD, 0xEE, 0xFF, 0x00, 0x11, 0x22, 0x33, 0x44, 0x55, 0x66, 0x77, 0xF0, 0xE1, 0xD2, 0xC3, 0xB4, 0xA5, 0x96, 0x87, 0x78, 0x69, 0x5A, 0x4B, 0x3C, 0x2D, 0x1E, 0x0F]) .illegal = true ∧
    faults (withBytes ((((stateAt 0x1000#64 0xFD800022).writeX 1#5 0x2000#64).writeX 2#5 0x1122334455667788#64).writeXSP 31#5 0x2000#64) 0x2000#64 [0x88, 0x99, 0xAA, 0xBB, 0xCC, 0xDD, 0xEE, 0xFF, 0x00, 0x11, 0x22, 0x33, 0x44, 0x55, 0x66, 0x77, 0xF0, 0xE1, 0xD2, 0xC3, 0xB4, 0xA5, 0x96, 0x87, 0x78, 0x69, 0x5A, 0x4B, 0x3C, 0x2D, 0x1E, 0x0F]) .illegal = true ∧
    faults (withBytes ((((stateAt 0x1000#64 0xBDC00022).writeX 1#5 0x2000#64).writeX 2#5 0x1122334455667788#64).writeXSP 31#5 0x2000#64) 0x2000#64 [0x88, 0x99, 0xAA, 0xBB, 0xCC, 0xDD, 0xEE, 0xFF, 0x00, 0x11, 0x22, 0x33, 0x44, 0x55, 0x66, 0x77, 0xF0, 0xE1, 0xD2, 0xC3, 0xB4, 0xA5, 0x96, 0x87, 0x78, 0x69, 0x5A, 0x4B, 0x3C, 0x2D, 0x1E, 0x0F]) .illegal = true ∧
    faults ((((((((stateAt 0x1000#64 0x32800020).writeX 0#5 0xDEADDEADDEADDEAD#64).writeX 1#5 0xFFFFFFFFFFFFFFFF#64).writeX 2#5 0x7FFFFFFFFFFFFFFF#64).writeX 3#5 0xFFFFFFFF#64).writeX 4#5 0x8000000000000000#64).writeX 5#5 0x123456789ABCDEF0#64).writeX 6#5 0xF0F0F0F0F0F0F0F#64) .illegal = true ∧
    faults ((((((((stateAt 0x1000#64 0xB2800020).writeX 0#5 0xDEADDEADDEADDEAD#64).writeX 1#5 0xFFFFFFFFFFFFFFFF#64).writeX 2#5 0x7FFFFFFFFFFFFFFF#64).writeX 3#5 0xFFFFFFFF#64).writeX 4#5 0x8000000000000000#64).writeX 5#5 0x123456789ABCDEF0#64).writeX 6#5 0xF0F0F0F0F0F0F0F#64) .illegal = true ∧
    faults ((((((((stateAt 0x1000#64 0x52C00020).writeX 0#5 0xDEADDEADDEADDEAD#64).writeX 1#5 0xFFFFFFFFFFFFFFFF#64).writeX 2#5 0x7FFFFFFFFFFFFFFF#64).writeX 3#5 0xFFFFFFFF#64).writeX 4#5 0x8000000000000000#64).writeX 5#5 0x123456789ABCDEF0#64).writeX 6#5 0xF0F0F0F0F0F0F0F#64) .illegal = true ∧
    faults ((((((((stateAt 0x1000#64 0x12E00020).writeX 0#5 0xDEADDEADDEADDEAD#64).writeX 1#5 0xFFFFFFFFFFFFFFFF#64).writeX 2#5 0x7FFFFFFFFFFFFFFF#64).writeX 3#5 0xFFFFFFFF#64).writeX 4#5 0x8000000000000000#64).writeX 5#5 0x123456789ABCDEF0#64).writeX 6#5 0xF0F0F0F0F0F0F0F#64) .illegal = true ∧
    faults ((((((((stateAt 0x1000#64 0x72C00020).writeX 0#5 0xDEADDEADDEADDEAD#64).writeX 1#5 0xFFFFFFFFFFFFFFFF#64).writeX 2#5 0x7FFFFFFFFFFFFFFF#64).writeX 3#5 0xFFFFFFFF#64).writeX 4#5 0x8000000000000000#64).writeX 5#5 0x123456789ABCDEF0#64).writeX 6#5 0xF0F0F0F0F0F0F0F#64) .illegal = true ∧
    faults ((((((((stateAt 0x1000#64 0x8BC60CA0).writeX 0#5 0xDEADDEADDEADDEAD#64).writeX 1#5 0xFFFFFFFFFFFFFFFF#64).writeX 2#5 0x7FFFFFFFFFFFFFFF#64).writeX 3#5 0xFFFFFFFF#64).writeX 4#5 0x8000000000000000#64).writeX 5#5 0x123456789ABCDEF0#64).writeX 6#5 0xF0F0F0F0F0F0F0F#64) .illegal = true ∧
    faults ((((((((stateAt 0x1000#64 0x6B06FCA0).writeX 0#5 0xDEADDEADDEADDEAD#64).writeX 1#5 0xFFFFFFFFFFFFFFFF#64).writeX 2#5 0x7FFFFFFFFFFFFFFF#64).writeX 3#5 0xFFFFFFFF#64).writeX 4#5 0x8000000000000000#64).writeX 5#5 0x123456789ABCDEF0#64).writeX 6#5 0xF0F0F0F0F0F0F0F#64) .illegal = true := by decide
/-- spec/95_test_vectors.md `(SUB vector)`, `(CMTST 8B)`, `(ADDP 2D)`, `(SUB 8B)`, `(size=01)`, `(opcode=00011)`, `YIELD`, `(B.cond o0=1)`, `(B.cond o1=1)`, `(ERET)`, `(BR, op4=1)`, `(RETAA)`, `(SVC #0)`, `(BRK #0)`. -/
theorem test_faults_unimplemented :
    faults (((stateAt 0x1000#64 0x6EA28420).writeV 1#5 0x80FF7F01FFFFFFFF00000000FFFF00FF#128).writeV 2#5 0x8001810100000001FFFFFFFF000100FF#128) .unimplemented = true ∧
    faults (((stateAt 0x1000#64 0x0E228C20).writeV 1#5 0x80FF7F01FFFFFFFF00000000FFFF00FF#128).writeV 2#5 0x8001810100000001FFFFFFFF000100FF#128) .unimplemented = true ∧
    faults (((stateAt 0x1000#64 0x4EE2BC20).writeV 1#5 0x80FF7F01FFFFFFFF00000000FFFF00FF#128).writeV 2#5 0x8001810100000001FFFFFFFF000100FF#128) .unimplemented = true ∧
    faults (((stateAt 0x1000#64 0x2E228420).writeV 1#5 0x80FF7F01FFFFFFFF00000000FFFF00FF#128).writeV 2#5 0x8001810100000001FFFFFFFF000100FF#128) .unimplemented = true ∧
    faults (((stateAt 0x1000#64 0x4E684820).writeV 0#5 0xFFEEDDCCBBAA99887766554433221100#128).writeV 1#5 0xF0E0D0C0B0A09080706050403020100#128) .unimplemented = true ∧
    faults (((stateAt 0x1000#64 0x4E283820).writeV 0#5 0xFFEEDDCCBBAA99887766554433221100#128).writeV 1#5 0xF0E0D0C0B0A09080706050403020100#128) .unimplemented = true ∧
    faults (stateAt 0x1000#64 0xD503203F) .unimplemented = true ∧
    faults (stateAt 0x1000#64 0x54000010) .unimplemented = true ∧
    faults (stateAt 0x1000#64 0x55000000) .unimplemented = true ∧
    faults (stateAt 0x1000#64 0xD69F03E0) .unimplemented = true ∧
    faults (stateAt 0x1000#64 0xD61F0001) .unimplemented = true ∧
    faults (stateAt 0x1000#64 0xD65F0BFF) .unimplemented = true ∧
    faults (stateAt 0x1000#64 0xD4000001) .unimplemented = true ∧
    faults (stateAt 0x1000#64 0xD4200000) .unimplemented = true := by decide
/-! ## Witnesses: a state and operands that meet all the hypotheses of each statement together -/

/-- A step that passes a check answers a next state that passes it. -/
theorem next_of_after {s : State} {check : State → Bool} (h : after s check = true) :
    ∃ t, step s = .next t ∧ check t = true := by
  unfold after at h
  split at h
  · exact ⟨_, by assumption, h⟩
  · cases h

/-- A state used as a witness: a word at pc, distinct registers, SP a multiple of 16, all flags set. -/
def witnessState (w : Nat) : State :=
  { (((stateAt 0x1000#64 w).writeX 1#5 0x2000#64).writeX 2#5 0xFFFFFFFFFFFFFFFF#64) with
    sp := 0x8000#64, flags := ⟨true, true, true, true⟩ }

theorem witness_EncodeOfDecodeIsWord : ∃ (w : InstrWord) (i : Instr), decode w = .instr i :=
  ⟨0x4E284820#32, .aese 1#5 0#5, by decide⟩
theorem witness_ClassPatternsDisjoint :
    (∃ l : List ClassRow, l.Perm classTable) ∧ (∃ w : InstrWord, ∀ r ∈ classTable, r.fits w = false) :=
  ⟨⟨classTable, List.Perm.refl _⟩, 0#32, by decide⟩
theorem witness_OpcodeTableAgreesWithDecoder :
    ∃ (w : InstrWord) (i : Instr), decode w = .instr i ∧ i.opcodeRow.fits w = true :=
  ⟨0x0EE28420#32, .addVector 0#1 3#2 2#5 1#5 0#5, by decide, by decide⟩
theorem witness_RotateMovesEveryBit : (0 < 64 ∧ 63 < 64) := by decide
theorem witness_AddWithCarryFollowsTheIntegers : 0 < 1 ∧ 0 < 64 := by decide
theorem witness_RegisterViewsByIndex : (0#5).toNat < 31 ∧ (30#5).toNat < 31 := by decide
theorem witness_NarrowViewsClearTheRest :
    (8 ∈ [8, 16, 32, 64, 128] ∧ 8 ≤ 128) ∧ (128 ∈ [8, 16, 32, 64, 128] ∧ 128 ≤ 128) := by decide
theorem witness_AccessorLaws :
    State.reset.Inv ∧ (Field.gpr 31#5 ≠ Field.gpr 30#5) ∧ (Field.flag .n ≠ Field.flag .v) ∧
    (Field.memoryByte 0#64 ≠ Field.memoryByte 0xFFFFFFFFFFFFFFFF#64) ∧ (30#5).toNat < 31 :=
  ⟨rfl, by decide, by decide, by decide, by decide⟩
theorem witness_MemReadIsLittleEndian : 0 < 1 ∧ 15 < 16 := by decide
theorem witness_MemWriteSetsItsBytesOnly : ∃ (s : State) (n : Nat), s.Inv ∧ n ≤ 2 ^ 64 ∧ 15 < n :=
  ⟨State.reset, 2 ^ 64, rfl, Nat.le_refl _, by decide⟩
theorem witness_ReadAfterWriteLaws :
    ∃ (s : State) (addr addr' : Word) (n n' : Nat), s.Inv ∧ n ∈ [1, 2, 4, 8, 16] ∧ 0 < n' ∧
      ∀ i j, i < n → j < n' → addr' + BitVec.ofNat 64 j ≠ addr + BitVec.ofNat 64 i := by
  refine ⟨State.reset, 0#64, 16#64, 16, 1, rfl, by decide, by decide, ?_⟩
  intro i j hi hj
  have : j = 0 := by omega
  subst this
  intro e
  have := congrArg BitVec.toNat e
  simp at this
  omega
theorem witness_RegionPredicateLaws :
    legal ⟨0#64, 2 ^ 64⟩ = true ∧ subset ⟨8#64, 8⟩ ⟨0#64, 16⟩ = true ∧ subset ⟨0#64, 16⟩ ⟨0#64, 2 ^ 64⟩ = true ∧
    separate ⟨0#64, 16⟩ ⟨16#64, 1⟩ = true ∧ (Region.mk 5#64 0).len = 0 := by decide
theorem witness_RegionsBoundAccesses :
    ∃ (s : State) (a b : Word) (n m : Nat), s.Inv ∧ n ≤ 2 ^ 64 ∧ m ≤ 2 ^ 64 ∧ 1 ≤ n ∧
      separate ⟨a, n⟩ ⟨b, m⟩ = true ∧ subset ⟨a, n⟩ ⟨a, n + m⟩ = true ∧ n + m ≤ 2 ^ 64 :=
  ⟨State.reset, 0#64, 8#64, 8, 16, rfl, by decide, by decide, by decide, by decide, by decide, by decide⟩
theorem witness_OrderedRegionsArePairwiseSeparate :
    orderedDisjoint [⟨0#64, 16⟩, ⟨16#64, 0⟩, ⟨16#64, 8⟩, ⟨0xFFFFFFFFFFFFFFFF#64, 1⟩] = true := by decide
theorem witness_LoadedWordsAreFetched :
    ∃ (s : State) (ws : List InstrWord), s.Inv ∧ 4 * ws.length ≤ 2 ^ 64 ∧ 1 < ws.length :=
  ⟨State.reset, [0xD503201F#32, 0xD503201F#32], rfl, by decide, by decide⟩
theorem witness_StepKeepsMemoryCanonical :
    ∃ s t : State, s.Inv ∧ step s = .next t ∧ t.readByte 0x2000#64 = 0xFF#8 := by
  have h : after (witnessState 0x39000022) (fun t => t.readByte 0x2000#64 == 0xFF#8) = true := by decide
  obtain ⟨t, h1, h2⟩ := next_of_after h
  exact ⟨_, t, by unfold State.Inv; decide, h1, by simpa using h2⟩
theorem witness_FaultingStepChangesOnlyTheErrorSlot : ∃ s t : State, step s = .next t ∧ t.err ≠ .none := by
  have h : after (witnessState 0xD4000001) (fun t => t.err != .none) = true := by decide
  obtain ⟨t, h1, h2⟩ := next_of_after h
  exact ⟨_, t, h1, by simpa using h2⟩
theorem witness_StepCompletesOnEveryRunningState : State.reset.err = .none := rfl
theorem witness_NoStepFromFaultedState : ∃ s : State, s.err ≠ .none :=
  ⟨{ State.reset with err := .illegal "" }, by decide⟩
theorem witness_PcAdvancesByFour :
    (∃ s t : State, step s = .next t ∧ t.err = .none ∧ ∀ i, fetchDecode s = .instr i → isControlFlow i = false) ∧
    (∃ s t : State, step s = .next t ∧ t.err ≠ .none) := by
  refine ⟨?_, witness_FaultingStepChangesOnlyTheErrorSlot⟩
  have h : after (witnessState 0x91000420) (fun t => t.err == .none) = true := by decide
  obtain ⟨t, h1, h2⟩ := next_of_after h
  refine ⟨_, t, h1, by simpa using h2, fun i hi => ?_⟩
  have hd : fetchDecode (witnessState 0x91000420) = .instr (.addImm 1#1 0#1 1#12 1#5 0#5) := by decide
  rw [hd] at hi
  cases hi
  rfl
theorem witness_OnlyFlagSettersWriteFlags :
    (∃ s t : State, step s = .next t ∧ ∀ i, fetchDecode s = .instr i → writesFlags i = false) ∧
    (∃ s t : State, step s = .next t ∧ t.err ≠ .none) := by
  refine ⟨?_, witness_FaultingStepChangesOnlyTheErrorSlot⟩
  have h : after (witnessState 0x54000020) (fun t => t.err == .none) = true := by decide
  obtain ⟨t, h1, -⟩ := next_of_after h
  refine ⟨_, t, h1, fun i hi => ?_⟩
  have hd : fetchDecode (witnessState 0x54000020) = .instr (.bCond 1#19 0#4) := by decide
  rw [hd] at hi
  cases hi
  rfl
theorem witness_OnlyConditionalBranchReadsFlags :
    ∃ (i : Instr) (s t : State), readsFlags i = false ∧ exec i s = .next t ∧ writesFlags i = true ∧
      i.wellFormed = true :=
  ⟨.andsShifted 1#1 3#2 1#5 63#6 2#5 0#5, State.reset, _, rfl, rfl, rfl, by decide⟩
theorem witness_StepRunsTheDecodedInstruction :
    ∃ (s : State) (i : Instr), s.err = .none ∧ s.pc.toNat % 4 = 0 ∧
      decodeBytes (s.readByte s.pc) (s.readByte (s.pc + 1#64)) (s.readByte (s.pc + 2#64)) (s.readByte (s.pc + 3#64)) =
        .instr i :=
  ⟨witnessState 0xD65F03C0, .ret 30#5, rfl, by decide, by decide⟩
theorem witness_StoredWordIsTheNextInstruction :
    ∃ (s : State) (w : InstrWord) (i : Instr), s.Inv ∧ s.err = .none ∧ s.pc.toNat % 4 = 0 ∧ decode w = .instr i :=
  ⟨State.reset, 0xD503201F#32, .nop, rfl, rfl, by decide, by decide⟩
theorem witness_UnsupportedWordFaultsUnimplemented :
    ∃ s : State, s.err = .none ∧ s.pc.toNat % 4 = 0 ∧ ∀ r ∈ classTable, r.fits (s.memRead s.pc 4) = false :=
  ⟨witnessState 0xD4000001, rfl, by decide, by decide⟩
theorem witness_MisalignedPcFaultsBeforeTheFetch : ∃ s : State, s.err = .none ∧ s.pc.toNat % 4 ≠ 0 :=
  ⟨{ State.reset with pc := 1#64 }, rfl, by decide⟩
theorem witness_FaultCausesAreComplete : ∃ s t : State, step s = .next t :=
  witness_FaultingStepChangesOnlyTheErrorSlot.imp fun _ h => h.imp fun _ h => h.1
theorem witness_VectorAddPerLane :
    ¬ (3#2 = 3#2 ∧ 1#1 = 0#1) ∧ ¬ (2#2 = 3#2 ∧ 0#1 = 0#1) ∧ 15 < (if 1#1 = 1#1 then 128 else 64) / (8 * 2 ^ (0#2).toNat) := by
  decide
theorem witness_AesInstructionBytes : ∃ (s : State) (a : Nat → Byte), ∀ k, a k = byteAt (s.readV 1#5) (4 * 3 + (3 + k) % 4) :=
  ⟨State.reset, _, fun _ => rfl⟩
theorem witness_SboxIsTheAffineTransformOfTheInverse : 0#8 = 0#8 ∧ 1#8 ≠ 0#8 ∧ 15 < 16 := by decide
theorem witness_AesTransformsAreInverse : ∃ (v : VWord) (a : Nat → Byte), ∀ k, a k = byteAt v (4 * 3 + k % 4) :=
  ⟨1#128, _, fun _ => rfl⟩
theorem witness_MoveWideBits : (1#1 = 1#1 ∨ (3#2).toNat < 2) ∧ (0#1 = 1#1 ∨ (1#2).toNat < 2) := by decide
theorem witness_AddSubShiftedValues : 2#2 ≠ 3#2 ∧ (63#6).toNat < widthOf 1#1 ∧ (31#6).toNat < widthOf 0#1 := by decide
theorem witness_AddSubShiftedFlagValues : 0#2 ≠ 3#2 ∧ (63#6).toNat < widthOf 1#1 ∧ (31#6).toNat < widthOf 0#1 := by decide
theorem witness_LogicalShiftedValues : (63#6).toNat < widthOf 1#1 ∧ (31#6).toNat < widthOf 0#1 := by decide
theorem witness_LogicalShiftedFlagValues : (63#6).toNat < widthOf 1#1 ∧ (0#6).toNat < widthOf 0#1 := by decide
theorem witness_ReservedFieldsFaultIllegal :
    2 ≤ (2#2).toNat ∧ 32 ≤ (32#6).toNat ∧ 32 ≤ (63#6).toNat ∧ 0#2 ≠ 3#2 ∧ 30#5 ≠ 31#5 := by decide
/-- The base another register than the data register, the data register itself where no write-back occurs, and
SP with the zero register. -/
theorem witness_GeneralStoresComplete :
    ∃ s : State, s.Inv ∧ (∀ rn : RegIdx, spAligned rn s) ∧ noConflict (.unsignedOffset 4095#12) 1#5 1#5 ∧
      noConflict (.postIndex 0x100#9) 1#5 2#5 ∧ noConflict (.preIndex 0xFF#9) 31#5 31#5 :=
  ⟨witnessState 0xD503201F, by unfold State.Inv; decide, fun _ _ _ => by decide, trivial, .inl (by decide), .inr rfl⟩
theorem witness_GeneralLoadsComplete :
    ∃ s : State, (∀ rn : RegIdx, spAligned rn s) ∧ noConflict (.unsignedOffset 4095#12) 1#5 1#5 ∧
      noConflict (.postIndex 0x100#9) 31#5 31#5 ∧ noConflict (.preIndex 0xFF#9) 1#5 31#5 :=
  ⟨witnessState 0xD503201F, fun _ _ _ => by decide, trivial, .inr rfl, .inl (by decide)⟩
theorem witness_SimdStoresComplete : ∃ s : State, s.Inv ∧ ∀ rn : RegIdx, spAligned rn s :=
  ⟨witnessState 0xD503201F, by unfold State.Inv; decide, fun _ _ _ => by decide⟩
theorem witness_SimdLoadsComplete : ∃ s : State, ∀ rn : RegIdx, spAligned rn s :=
  ⟨witnessState 0xD503201F, fun _ _ _ => by decide⟩
theorem witness_MisalignedSpFaults : ∃ s : State, s.sp.toNat % 16 ≠ 0 :=
  ⟨{ State.reset with sp := 8#64 }, by decide⟩
theorem witness_FrameVectorAndAes :
    (∃ s t : State, exec (.aesmc 1#5 0#5) s = .next t) ∧ (∃ s t : State, exec (.addVector 0#1 3#2 2#5 1#5 0#5) s = .next t) :=
  ⟨⟨State.reset, _, rfl⟩, State.reset, _, rfl⟩
theorem witness_FrameBranches :
    (∃ s t : State, exec (.cbz 1#1 2#19 31#5) s = .next t) ∧ (∃ s t : State, exec (.blr 30#5) s = .next t) :=
  ⟨⟨State.reset, _, rfl⟩, State.reset, _, rfl⟩
theorem witness_FrameDataProcessingWithoutFlags :
    (∃ s t : State, exec (.movk 1#1 3#2 1#16 0#5) s = .next t) ∧ (∃ s t : State, exec (.subImm 1#1 1#1 1#12 31#5 31#5) s = .next t) :=
  ⟨⟨State.reset, _, rfl⟩, State.reset, _, rfl⟩
theorem witness_FrameDataProcessingWithFlags :
    ∃ s t : State, exec (.subsShifted 0#1 0#2 1#5 31#6 2#5 31#5) s = .next t ∧ 31#5 = 31#5 :=
  ⟨State.reset, _, rfl, rfl⟩
theorem witness_FrameLoads :
    (∃ s t : State, exec (.ldrXOff 0#12 1#5 1#5) s = .next t) ∧ (∃ s t : State, exec (.ldrXPre 8#9 31#5 31#5) s = .next t) ∧
    (∃ s t : State, exec (.ldrSimdQOff 1#12 1#5 31#5) s = .next t) ∧ (∃ s t : State, exec (.ldrSimdBPost 8#9 1#5 1#5) s = .next t) :=
  ⟨⟨State.reset, _, rfl⟩, ⟨State.reset, _, rfl⟩, ⟨State.reset, _, rfl⟩, State.reset, _, rfl⟩
theorem witness_FrameStores :
    (∃ s t : State, exec (.strXPre 0x1F8#9 31#5 30#5) s = .next t) ∧ (∃ s t : State, exec (.strSimdQOff 1#12 1#5 31#5) s = .next t) :=
  ⟨⟨State.reset, _, rfl⟩, State.reset, _, rfl⟩
/-- The whole value and one bit of it as extracts, and an extension that widens by nothing. -/
theorem witness_ExtractConcatenateExtendValues :
    (0 ≤ 63 ∧ 63 < 64) ∧ (63 ≤ 63 ∧ 63 < 64) ∧ 64 ≤ 64 ∧ 1 ≤ 64 ∧ 0 < 1 := by decide

end Sys2Proof.Tests
end

section
/-! SUPPORT and PROOFS. The bit-vector layer read as arithmetic (spec/00_scope.md R14 to R18, R21): what each
operation's result is as a number, or bit by bit, and the four statements about it. -/

namespace Sys2Proof.Machine

/-! ## Signed values (R9) -/

/-- Lean's signed reading of a vector is the spec's `int_n`: the top bit is clear exactly when twice the value
stays below `2^n`. At width 0 both tests hold of the one value there is. -/
theorem toInt_eq_signedNat {n : Nat} (a : BitVec n) : a.toInt = signedNat n a.toNat := by
  have htest : 2 * a.toNat < 2 ^ n ↔ a.toNat < 2 ^ (n - 1) := by
    have hlt := a.isLt
    cases n with
    | zero => omega
    | succ n => rw [Nat.add_sub_cancel, Nat.pow_succ]; omega
  simp only [BitVec.toInt_eq_toNat_cond, signedNat, htest, Nat.cast_pow, Nat.cast_ofNat]

/-! ## Shifts (R14) -/

@[simp] theorem toNat_lsl {n : Nat} (a : BitVec n) (k : Nat) : (lsl a k).toNat = a.toNat * 2 ^ k % 2 ^ n := by
  rw [lsl, BitVec.toNat_shiftLeft, Nat.shiftLeft_eq]

@[simp] theorem toNat_lsr {n : Nat} (a : BitVec n) (k : Nat) : (lsr a k).toNat = a.toNat / 2 ^ k := by
  rw [lsr, BitVec.toNat_ushiftRight, Nat.shiftRight_eq_div_pow]

theorem lsl_of_width_le {n k : Nat} (a : BitVec n) (h : n ≤ k) : lsl a k = 0#n := BitVec.shiftLeft_eq_zero h

theorem lsr_of_width_le {n k : Nat} (a : BitVec n) (h : n ≤ k) : lsr a k = 0#n := BitVec.ushiftRight_eq_zero h

theorem asr_eq_ofInt {n : Nat} (a : BitVec n) (k : Nat) : asr a k = BitVec.ofInt n (a.toInt / 2 ^ k) := by
  rw [asr, BitVec.sshiftRight_eq, Int.shiftRight_eq_div_pow, Nat.cast_pow, Nat.cast_ofNat]

/-- From the width on, only copies of the sign bit are left: the complement of a logical shift to zero where the
sign is set, a logical shift to zero where it is clear. -/
theorem asr_of_width_le {n k : Nat} (a : BitVec n) (h : n ≤ k) :
    asr a k = if a.msb then BitVec.allOnes n else 0#n := by
  unfold asr
  split
  · next hmsb => rw [BitVec.sshiftRight_eq_of_msb_true hmsb, BitVec.ushiftRight_eq_zero h, BitVec.not_zero]
  · next hmsb =>
    rw [BitVec.sshiftRight_eq_of_msb_false (Bool.eq_false_iff.mpr hmsb), BitVec.ushiftRight_eq_zero h]

/-! ## Rotate (R15) -/

/-- A rotate by an amount below the width: the bits that do not cross the low end come from the right shift, the
others from the left shift. -/
theorem getLsbD_lsr_or_lsl {n r i : Nat} (a : BitVec n) (hr : r < n) (hi : i < n) :
    (lsr a r ||| lsl a (n - r)).getLsbD i = a.getLsbD ((i + r) % n) := by
  simp only [lsr, lsl, BitVec.getLsbD_or, BitVec.getLsbD_ushiftRight, BitVec.getLsbD_shiftLeft]
  by_cases hwrap : i + r < n
  · have hleft : i < n - r := by omega
    simp [Nat.mod_eq_of_lt hwrap, hleft, Nat.add_comm r i]
  · have hmod : (i + r) % n = i - (n - r) := by
      rw [Nat.mod_eq_sub_mod (by omega), Nat.mod_eq_of_lt (by omega)]; omega
    have hright : n ≤ r + i := by omega
    have hleft : ¬ i < n - r := by omega
    simp [hmod, hleft, hi, BitVec.getLsbD_of_ge a _ hright]

theorem getLsbD_ror {n i : Nat} (a : BitVec n) (k : Nat) (hi : i < n) :
    (ror a k).getLsbD i = a.getLsbD ((i + k) % n) := by
  rw [← Nat.add_mod_mod]
  unfold ror
  split
  · next hzero => rw [hzero, Nat.add_zero, Nat.mod_eq_of_lt hi]
  · exact getLsbD_lsr_or_lsl a (Nat.mod_lt k (by omega)) hi

/-! ## Extract, concatenate, extend (R16 to R18) -/

@[simp] theorem toNat_slice {n hi lo : Nat} (v : BitVec n) (h : lo ≤ hi ∧ hi < n) :
    (slice hi lo v h).toNat = v.toNat / 2 ^ lo % 2 ^ (hi - lo + 1) := by
  rw [slice, BitVec.extractLsb_toNat, Nat.shiftRight_eq_div_pow]

@[simp] theorem toNat_concat {m n : Nat} (a : BitVec m) (b : BitVec n) :
    (concat a b).toNat = a.toNat * 2 ^ n + b.toNat := by
  rw [concat, BitVec.toNat_append, ← Nat.shiftLeft_add_eq_or_of_lt b.isLt, Nat.shiftLeft_eq]

@[simp] theorem toNat_zext {m N : Nat} (a : BitVec m) (h : m ≤ N) : (zext N a h).toNat = a.toNat :=
  BitVec.toNat_setWidth_of_le h

theorem toNat_sext {m N : Nat} (a : BitVec m) (h : m ≤ N) :
    ((sext N a h).toNat : Int) = signedNat m a.toNat % 2 ^ N := by
  have hpos : (0 : Int) ≤ a.toInt % (2 ^ N : Nat) := Int.emod_nonneg _ (by positivity)
  rw [sext, BitVec.signExtend, BitVec.toNat_ofInt, Int.toNat_of_nonneg hpos, toInt_eq_signedNat,
    Nat.cast_pow, Nat.cast_ofNat]

@[simp] theorem zext_self {m : Nat} (a : BitVec m) (h : m ≤ m) : zext m a h = a := BitVec.setWidth_eq a

@[simp] theorem sext_self {m : Nat} (a : BitVec m) (h : m ≤ m) : sext m a h = a := BitVec.signExtend_eq a

/-! ## AddWithCarry (R21) -/

section AddWithCarry
variable {n : Nat} (x y : BitVec n) (cin : Bool)

theorem toNat_addWithCarry : (addWithCarry x y cin).1.toNat = (x.toNat + y.toNat + cin.toNat) % 2 ^ n :=
  BitVec.toNat_ofNat _ n

theorem addWithCarry_n : (addWithCarry x y cin).2.n = (addWithCarry x y cin).1.getLsbD (n - 1) :=
  BitVec.msb_eq_getLsbD_last _

theorem addWithCarry_z : (addWithCarry x y cin).2.z = true ↔ (addWithCarry x y cin).1 = 0#n := beq_iff_eq

theorem addWithCarry_c_eq_false : (addWithCarry x y cin).2.c = false ↔
    (addWithCarry x y cin).1.toNat = x.toNat + y.toNat + cin.toNat := bne_eq_false_iff_eq

theorem addWithCarry_v_eq_false : (addWithCarry x y cin).2.v = false ↔
    (addWithCarry x y cin).1.toInt = x.toInt + y.toInt + cin.toNat := bne_eq_false_iff_eq

/-- The carry is set when the unbounded unsigned sum does not fit the width. -/
theorem addWithCarry_c_eq_true :
    (addWithCarry x y cin).2.c = true ↔ 2 ^ n ≤ x.toNat + y.toNat + cin.toNat := by
  rw [← Bool.not_eq_false, addWithCarry_c_eq_false, toNat_addWithCarry, Nat.mod_eq_iff_lt (by positivity), not_lt]

/-- Adding the complement with a carry in adds `2^n - nat(y)`. -/
theorem toNat_add_not_add_one : x.toNat + (~~~y).toNat + true.toNat = x.toNat + (2 ^ n - y.toNat) := by
  have hy := y.isLt
  rw [BitVec.toNat_not, Bool.toNat_true]
  omega

theorem addWithCarry_not_true : (addWithCarry x (~~~y) true).1 = x - y := by
  apply BitVec.eq_of_toNat_eq
  rw [toNat_addWithCarry, toNat_add_not_add_one, BitVec.toNat_sub, Nat.add_comm]

theorem addWithCarry_not_true_c : (addWithCarry x (~~~y) true).2.c = true ↔ y.toNat ≤ x.toNat := by
  have hy := y.isLt
  rw [addWithCarry_c_eq_true, toNat_add_not_add_one]
  omega

end AddWithCarry

/-! ## The statements -/

/-- Settles O6, below the width by the values of the shifts and beyond it by what is left of the vector. -/
theorem shiftsHaveTheirValues : Obligations.ShiftsHaveTheirValues := by
  intro n a k
  by_cases hk : k < n
  · simp only [if_pos hk]
    exact ⟨toNat_lsl a k, toNat_lsr a k, asr_eq_ofInt a k⟩
  · have hle : n ≤ k := Nat.le_of_not_lt hk
    simp only [if_neg hk]
    exact ⟨by rw [lsl_of_width_le a hle, BitVec.toNat_zero], by rw [lsr_of_width_le a hle, BitVec.toNat_zero],
      asr_of_width_le a hle⟩

/-- Settles O7, by the split of R15 at the position where the rotated bits wrap. -/
theorem rotateMovesEveryBit : Obligations.RotateMovesEveryBit := fun _ a k _ hi => getLsbD_ror a k hi

/-- Settles O8, clause by clause; the subtraction clauses rest on `toNat_add_not_add_one`. -/
theorem addWithCarryFollowsTheIntegers : Obligations.AddWithCarryFollowsTheIntegers := fun _ _ x y cin =>
  ⟨toNat_addWithCarry x y cin, addWithCarry_n x y cin, addWithCarry_z x y cin, addWithCarry_c_eq_false x y cin,
    addWithCarry_v_eq_false x y cin, addWithCarry_not_true x y, addWithCarry_not_true_c x y⟩

/-- Settles O60, clause by clause. -/
theorem extractConcatenateExtendValues : Obligations.ExtractConcatenateExtendValues := fun _ _ a b =>
  ⟨fun _ _ inRange => toNat_slice a inRange, toNat_concat a b,
    fun _ widens => ⟨toNat_zext a widens, fun _ => toNat_sext a widens⟩,
    fun same => ⟨zext_self a same, sext_self a same⟩⟩

end Sys2Proof.Machine
end

section
/-! SUPPORT and PROOFS. The general shape of an instruction's meaning: fault checks, then one update of the
state, then the change of pc. Every arm of `exec` has it (`exec_meaning`); what the statements say of every
step about memory, pc and the flags is read off the shape, once. -/

namespace Sys2Proof.Machine

/-! ## Values and updates that do not depend on the flags -/

/-- A value read off the state without looking at the flags (spec/10_state.md R42). For a value built from
registers, pc and memory it holds by evaluation. -/
def IgnoresFlags {α : Type} (g : State → α) : Prop := ∀ s f, g (s.setFlags f) = g s

/-- What an instruction does to the state ahead of its change of pc, when it writes no flag: pc, the error
slot and the flags stay, memory stays in canonical form, and nothing depends on the flags. -/
structure PlainUpdate (u : State → State) : Prop where
  pc : ∀ s, (u s).pc = s.pc
  err : ∀ s, (u s).err = s.err
  flags : ∀ s, (u s).flags = s.flags
  inv : ∀ s, s.Inv → (u s).Inv
  setFlags : ∀ s f, u (s.setFlags f) = (u s).setFlags f

theorem State.writeX_setFlags (s : State) (f : Flags) (i : RegIdx) (w : Word) :
    (s.setFlags f).writeX i w = (s.writeX i w).setFlags f := by
  unfold State.writeX; split <;> rfl

theorem State.writeXSP_setFlags (s : State) (f : Flags) (i : RegIdx) (w : Word) :
    (s.setFlags f).writeXSP i w = (s.writeXSP i w).setFlags f := by
  unfold State.writeXSP
  split
  · rfl
  · exact State.writeX_setFlags s f i w

theorem State.storeBytes_setFlags (s : State) (f : Flags) (a : Word) (g : Nat → Byte) (n : Nat) :
    (s.setFlags f).storeBytes a g n = (s.storeBytes a g n).setFlags f := by
  induction n with
  | zero => rfl
  | succ n ih => simp only [State.storeBytes, ih]; rfl

theorem State.memWrite_setFlags (s : State) (f : Flags) (a : Word) (n : Nat) (v : BitVec (8 * n)) :
    (s.setFlags f).memWrite a n v = (s.memWrite a n v).setFlags f :=
  State.storeBytes_setFlags s f a _ n

theorem State.inv_congr {s t : State} (h : t.mem = s.mem) (hs : s.Inv) : t.Inv := by
  unfold State.Inv; rwa [h]

namespace PlainUpdate

theorem id : PlainUpdate (fun s => s) := ⟨fun _ => rfl, fun _ => rfl, fun _ => rfl, fun _ h => h, fun _ _ => rfl⟩

variable {u : State → State}

theorem writeX (hu : PlainUpdate u) (i : RegIdx) {g : State → Word} (hg : IgnoresFlags g) :
    PlainUpdate (fun s => (u s).writeX i (g s)) where
  pc s := by simp [hu.pc]
  err s := by simp [hu.err]
  flags s := by simp [hu.flags]
  inv s hs := State.inv_congr (State.writeX_mem _ _ _) (hu.inv s hs)
  setFlags s f := by simp only [hu.setFlags, hg s f, State.writeX_setFlags]

theorem writeXSP (hu : PlainUpdate u) (i : RegIdx) {g : State → Word} (hg : IgnoresFlags g) :
    PlainUpdate (fun s => (u s).writeXSP i (g s)) where
  pc s := by simp [hu.pc]
  err s := by simp [hu.err]
  flags s := by simp [hu.flags]
  inv s hs := State.inv_congr (State.writeXSP_mem _ _ _) (hu.inv s hs)
  setFlags s f := by simp only [hu.setFlags, hg s f, State.writeXSP_setFlags]

theorem writeV (hu : PlainUpdate u) (i : RegIdx) {g : State → VWord} (hg : IgnoresFlags g) :
    PlainUpdate (fun s => (u s).writeV i (g s)) where
  pc s := hu.pc s
  err s := hu.err s
  flags s := hu.flags s
  inv s hs := State.inv_congr (State.writeV_mem _ _ _) (hu.inv s hs)
  setFlags s f := by simp only [hu.setFlags, hg s f]; rfl

theorem memWrite (hu : PlainUpdate u) {a : State → Word} (ha : IgnoresFlags a) (n : Nat)
    {g : State → BitVec (8 * n)} (hg : IgnoresFlags g) : PlainUpdate (fun s => (u s).memWrite (a s) n (g s)) where
  pc s := by simp [hu.pc]
  err s := by simp [hu.err]
  flags s := by simp [hu.flags]
  inv s hs := State.wf_memWrite (hu.inv s hs) _ _ _
  setFlags s f := by simp only [hu.setFlags, ha s f, hg s f, State.memWrite_setFlags]

/-- The write-back of a load or store, its value taken from the state before the access (R231). -/
theorem writeBack (hu : PlainUpdate u) (scale : Nat) (form : AddrForm) (rn : RegIdx) :
    PlainUpdate (fun s => writeBack rn (ldstAddress scale form rn s).2 (u s)) := by
  cases form with
  | unsignedOffset imm12 => exact hu
  | postIndex imm9 => exact hu.writeXSP rn (fun _ _ => rfl)
  | preIndex imm9 => exact hu.writeXSP rn (fun _ _ => rfl)

end PlainUpdate

/-! ## The shape of a meaning -/

/-- The shape every meaning has, indexed by whether it is control flow, writes the flags and reads them
(spec/10_state.md R38, R42). -/
inductive Meaning : (controlFlow writes reads : Bool) → (State → Result) → Prop where
  /-- A fault check ahead of the rest. -/
  | checked {cf wf rf : Bool} {c : State → Bool} {site : FaultSite} {m : State → Result} (hc : IgnoresFlags c)
      (hm : Meaning cf wf rf m) : Meaning cf wf rf (fun s => if c s then raise site s else m s)
  /-- An update, then the next instruction. -/
  | update {u : State → State} (hu : PlainUpdate u) : Meaning false false false (fun s => .next (u s).advance)
  /-- An update with all four flags, then the next instruction. -/
  | flagUpdate {u : State → State} {g : State → Flags} (hu : PlainUpdate u) (hg : IgnoresFlags g) :
      Meaning false true false (fun s => .next ((u s).setFlags (g s)).advance)
  /-- An update, then a jump. -/
  | jump {rf : Bool} {u : State → State} {target : State → Word} (hu : PlainUpdate u)
      (ht : rf = false → IgnoresFlags target) : Meaning true false rf (fun s => .next ((u s).setPc (target s)))

/-- What a step that does not fault keeps: the error slot, memory's canonical form, the flags unless the
instruction writes them; and outside control flow pc moves on by 4. -/
structure Completed (controlFlow writes : Bool) (s t : State) : Prop where
  err : t.err = s.err
  inv : s.Inv → t.Inv
  pc : controlFlow = false → t.pc = s.pc + 4#64
  flags : writes = false → t.flags = s.flags

/-- A meaning that answers a next state faulted or completed. -/
theorem Meaning.next_cases {cf wf rf : Bool} {m : State → Result} (hm : Meaning cf wf rf m) {s t : State}
    (h : m s = .next t) : (∃ site, t = s.faulted site) ∨ Completed cf wf s t := by
  induction hm with
  | @checked cf wf rf c site m hc hm ih =>
    dsimp only at h
    split at h
    · exact .inl ⟨site, raise_next.mp h⟩
    · exact ih h
  | @update u hu =>
    obtain rfl := next_inj.mp h
    exact .inr ⟨hu.err s, hu.inv s, fun _ => congrArg (· + 4#64) (hu.pc s), fun _ => hu.flags s⟩
  | @flagUpdate u g hu hg =>
    obtain rfl := next_inj.mp h
    exact .inr ⟨hu.err s, hu.inv s, fun _ => congrArg (· + 4#64) (hu.pc s), nofun⟩
  | @jump rf u target hu ht =>
    obtain rfl := next_inj.mp h
    exact .inr ⟨hu.err s, hu.inv s, nofun, fun _ => hu.flags s⟩

/-- A meaning that reads no flag carries a change of the flags through: the two results differ in the flags
at most. -/
theorem Meaning.next_setFlags {cf wf rf : Bool} {m : State → Result} (hm : Meaning cf wf rf m) (hrf : rf = false)
    {s t : State} (h : m s = .next t) (f : Flags) : ∃ g, m (s.setFlags f) = .next (t.setFlags g) := by
  induction hm with
  | @checked cf wf rf c site m hc hm ih =>
    dsimp only at h ⊢
    rw [hc s f]
    split at h
    · next hstop =>
      obtain rfl := raise_next.mp h
      exact ⟨f, if_pos hstop⟩
    · next hgo =>
      obtain ⟨g, hg⟩ := ih hrf h
      exact ⟨g, (if_neg hgo).trans hg⟩
  | @update u hu =>
    obtain rfl := next_inj.mp h
    exact ⟨f, by dsimp only; rw [hu.setFlags]; rfl⟩
  | @flagUpdate u g hu hg =>
    obtain rfl := next_inj.mp h
    exact ⟨g s, by dsimp only; rw [hu.setFlags, hg s f]; rfl⟩
  | @jump rf u target hu ht =>
    obtain rfl := next_inj.mp h
    exact ⟨f, by dsimp only; rw [hu.setFlags, ht hrf s f]; rfl⟩

/-! ## The shape of each shared meaning

A narrow register write is the 64-bit or 128-bit write of the extended value, so that `PlainUpdate.writeX`,
`writeXSP` and `writeV` serve every width. -/

theorem addVector_meaning (q : BitVec 1) (size : BitVec 2) (rm rn rd : RegIdx) :
    Meaning false false false (execAddVector q size rm rn rd) :=
  .checked (fun _ _ => rfl) (.update (PlainUpdate.id.writeV rd (fun _ _ => rfl)))

/-- The AES instructions write one vector register. -/
theorem writeV_meaning (rd : RegIdx) {g : State → VWord} (hg : IgnoresFlags g) :
    Meaning false false false (fun s => .next (s.writeV rd (g s)).advance) :=
  .update (PlainUpdate.id.writeV rd hg)

/-- ADR and ADRP write one general-purpose register. -/
theorem writeX_meaning (rd : RegIdx) {g : State → Word} (hg : IgnoresFlags g) :
    Meaning false false false (fun s => .next (s.writeX rd (g s)).advance) :=
  .update (PlainUpdate.id.writeX rd hg)

theorem moveWide_meaning (sf : BitVec 1) (hw : BitVec 2) (rd : RegIdx) {g : State → BitVec (datasize sf)}
    (hg : IgnoresFlags g) : Meaning false false false (fun s => moveWide sf (g s) hw rd s) :=
  .checked (fun _ _ => rfl) (.update (PlainUpdate.id.writeX rd fun s f => congrArg (zext 64 · _) (hg s f)))

theorem addSubImm_meaning (sub : Bool) (sf sh : BitVec 1) (imm12 : BitVec 12) (rn rd : RegIdx) :
    Meaning false false false (addSubImm sub sf sh imm12 rn rd) :=
  .update (PlainUpdate.id.writeXSP rd (fun _ _ => rfl))

theorem addSubShifted_meaning (sub : Bool) (sf : BitVec 1) (shift : BitVec 2) (rm : RegIdx) (imm6 : BitVec 6)
    (rn rd : RegIdx) : Meaning false false false (addSubShifted sub sf shift rm imm6 rn rd) :=
  .checked (fun _ _ => rfl) (.checked (fun _ _ => rfl) (.update (PlainUpdate.id.writeX rd (fun _ _ => rfl))))

/-- The flag setters write the flags ahead of the register; the order does not matter. -/
theorem flagSetter_meaning {sf : BitVec 1} (rd : RegIdx) {g : State → BitVec (datasize sf)} {fl : State → Flags}
    (hg : IgnoresFlags g) (hfl : IgnoresFlags fl) :
    Meaning false true false
      (fun s => .next ((s.setFlags (fl s)).setGpr rd (g s) (datasize_le_64 sf)).advance) := by
  have hu : PlainUpdate (fun s => s.setGpr rd (g s) (datasize_le_64 sf)) :=
    PlainUpdate.id.writeX rd fun s f => congrArg (zext 64 · _) (hg s f)
  simpa only [State.setGpr, State.writeX_setFlags] using Meaning.flagUpdate hu hfl

theorem addSubImmFlags_meaning (sub : Bool) (sf sh : BitVec 1) (imm12 : BitVec 12) (rn rd : RegIdx) :
    Meaning false true false (addSubImmFlags sub sf sh imm12 rn rd) :=
  flagSetter_meaning rd (fun _ _ => rfl) (fun _ _ => rfl)

theorem addSubShiftedFlags_meaning (sub : Bool) (sf : BitVec 1) (shift : BitVec 2) (rm : RegIdx) (imm6 : BitVec 6)
    (rn rd : RegIdx) : Meaning false true false (addSubShiftedFlags sub sf shift rm imm6 rn rd) :=
  .checked (fun _ _ => rfl) (.checked (fun _ _ => rfl) (flagSetter_meaning rd (fun _ _ => rfl) (fun _ _ => rfl)))

theorem andShiftedFlags_meaning (invert : Bool) (sf : BitVec 1) (shift : BitVec 2) (rm : RegIdx) (imm6 : BitVec 6)
    (rn rd : RegIdx) : Meaning false true false (andShiftedFlags invert sf shift rm imm6 rn rd) :=
  .checked (fun _ _ => rfl) (flagSetter_meaning rd (fun _ _ => rfl) (fun _ _ => rfl))

/-- A load or store whose access is a plain update. -/
theorem ldstStep_meaning (scale : Nat) (form : AddrForm) (rn : RegIdx) {access : State → Word → State → State}
    (hu : PlainUpdate (fun s => access s (ldstAddress scale form rn s).1 s)) :
    Meaning false false false (fun s => ldstStep scale form rn (access s) s) :=
  .checked (fun _ _ => rfl) (.update (hu.writeBack scale form rn))

theorem storeGpr_meaning (scale : Nat) (form : AddrForm) (rn rt : RegIdx) (h : scale ≤ 3) :
    Meaning false false false (fun s => storeGpr scale form rn rt s h) :=
  .checked (fun _ _ => rfl) (ldstStep_meaning scale form rn
    (PlainUpdate.id.memWrite (fun _ _ => rfl) (2 ^ scale) (fun _ _ => rfl)))

theorem loadGpr_meaning (scale : Nat) (form : AddrForm) (rn rt : RegIdx) (h : scale ≤ 3) :
    Meaning false false false (fun s => loadGpr scale form rn rt s h) :=
  .checked (fun _ _ => rfl) (ldstStep_meaning scale form rn (PlainUpdate.id.writeX rt (fun _ _ => rfl)))

theorem storeSimd_meaning (scale : Nat) (form : AddrForm) (rn rt : RegIdx) (h : scale ≤ 4) :
    Meaning false false false (fun s => storeSimd scale form rn rt s h) :=
  ldstStep_meaning scale form rn (PlainUpdate.id.memWrite (fun _ _ => rfl) (2 ^ scale) (fun _ _ => rfl))

theorem loadSimd_meaning (scale : Nat) (form : AddrForm) (rn rt : RegIdx) (h : scale ≤ 4) :
    Meaning false false false (fun s => loadSimd scale form rn rt s h) :=
  ldstStep_meaning scale form rn (PlainUpdate.id.writeV rt (fun _ _ => rfl))

/-- A branch to a fixed or a register target, without a link (B, BR, RET). -/
theorem setPc_meaning {target : State → Word} (ht : IgnoresFlags target) :
    Meaning true false false (fun s => .next (s.setPc (target s))) :=
  .jump PlainUpdate.id (fun _ => ht)

/-- A branch that links (BL, BLR). -/
theorem linkSetPc_meaning {target : State → Word} (ht : IgnoresFlags target) :
    Meaning true false false (fun s => .next ((link s).setPc (target s))) :=
  .jump (PlainUpdate.id.writeX 30#5 (fun _ _ => rfl)) (fun _ => ht)

/-- A conditional branch jumps either way; only B.cond's condition reads the flags. -/
theorem branchIf_meaning {rf : Bool} {taken : State → Bool} (offset : Word) (ht : rf = false → IgnoresFlags taken) :
    Meaning true false rf (fun s => branchIf (taken s) offset s) := by
  have hj : Meaning true false rf
      (fun s => .next (s.setPc (if taken s then s.pc + offset else s.pc + 4#64))) :=
    .jump PlainUpdate.id fun hrf s f => by rw [ht hrf s f]; rfl
  simpa only [branchIf, State.advance, apply_ite (State.setPc _)] using hj

theorem nop_meaning : Meaning false false false execNop := .update PlainUpdate.id

/-- Every instruction's meaning has the shape, as R38 and R42 class the instruction. -/
theorem exec_meaning (i : Instr) : Meaning (isControlFlow i) (writesFlags i) (readsFlags i) (exec i) := by
  cases i with
  | addVector => exact addVector_meaning ..
  | andVector | bicVector | orrVector | ornVector | eorVector | bslVector | bitVector | bifVector
  | aese | aesd | aesmc | aesimc => exact writeV_meaning _ (fun _ _ => rfl)
  | b | br | ret => exact setPc_meaning (fun _ _ => rfl)
  | bl | blr => exact linkSetPc_meaning (fun _ _ => rfl)
  | bCond => exact branchIf_meaning _ nofun
  | cbz | cbnz => exact branchIf_meaning _ (fun _ _ _ => rfl)
  | nop => exact nop_meaning
  | strbOff | strhOff | strWOff | strXOff => exact storeGpr_meaning _ (.unsignedOffset _) _ _ (by decide)
  | strbPost | strhPost | strWPost | strXPost | strbPre | strhPre | strWPre | strXPre =>
    exact storeGpr_meaning _ _ _ _ (by decide)
  | ldrbOff | ldrhOff | ldrWOff | ldrXOff => exact loadGpr_meaning _ (.unsignedOffset _) _ _ (by decide)
  | ldrbPost | ldrhPost | ldrWPost | ldrXPost | ldrbPre | ldrhPre | ldrWPre | ldrXPre =>
    exact loadGpr_meaning _ _ _ _ (by decide)
  | strSimdBOff | strSimdHOff | strSimdSOff | strSimdDOff | strSimdQOff
  | strSimdBPost | strSimdHPost | strSimdSPost | strSimdDPost | strSimdQPost
  | strSimdBPre | strSimdHPre | strSimdSPre | strSimdDPre | strSimdQPre =>
    exact storeSimd_meaning _ _ _ _ (by decide)
  | ldrSimdBOff | ldrSimdHOff | ldrSimdSOff | ldrSimdDOff | ldrSimdQOff
  | ldrSimdBPost | ldrSimdHPost | ldrSimdSPost | ldrSimdDPost | ldrSimdQPost
  | ldrSimdBPre | ldrSimdHPre | ldrSimdSPre | ldrSimdDPre | ldrSimdQPre =>
    exact loadSimd_meaning _ _ _ _ (by decide)
  | addImm | subImm => exact addSubImm_meaning ..
  | addsImm | subsImm => exact addSubImmFlags_meaning ..
  | movn | movz | movk => exact moveWide_meaning _ _ _ (fun _ _ => rfl)
  | adr | adrp => exact writeX_meaning _ (fun _ _ => rfl)
  | addShifted | subShifted => exact addSubShifted_meaning ..
  | addsShifted | subsShifted => exact addSubShiftedFlags_meaning ..
  | andShifted | bicShifted | orrShifted | ornShifted | eorShifted | eonShifted =>
    exact .checked (fun _ _ => rfl) (writeX_meaning _ (fun _ _ => rfl))
  | andsShifted | bicsShifted => exact andShiftedFlags_meaning ..

/-! ## What a step keeps -/

/-- A step faulted, or it completed the instruction its fetch decodes. -/
theorem step_faulted_or_completed {s t : State} (h : step s = .next t) :
    s.err = .none ∧ ((∃ site, t = s.faulted site) ∨
      ∃ i, fetchDecode s = .instr i ∧ Completed (isControlFlow i) (writesFlags i) s t) := by
  obtain ⟨herr, ⟨site, -, ht⟩ | ⟨i, hi, ht⟩⟩ := step_cases h
  · exact ⟨herr, .inl ⟨site, ht⟩⟩
  · exact ⟨herr, ((exec_meaning i).next_cases ht).imp_right fun hc => ⟨i, hi, hc⟩⟩

/-- Settles O21: a fault leaves memory alone, and every completed instruction keeps the canonical form. -/
theorem stepKeepsMemoryCanonical : Obligations.StepKeepsMemoryCanonical := by
  intro s t hs h
  obtain ⟨-, ⟨site, rfl⟩ | ⟨i, -, hc⟩⟩ := step_faulted_or_completed h
  · exact hs
  · exact hc.inv hs

/-- Settles O25: an empty error slot rules the fault out, a set one the completion. -/
theorem pcAdvancesByFour : Obligations.PcAdvancesByFour := by
  intro s t h
  obtain ⟨herr, ⟨site, rfl⟩ | ⟨i, hi, hc⟩⟩ := step_faulted_or_completed h
  · exact ⟨fun hn => absurd hn (errOf_ne_none site), fun _ => rfl⟩
  · exact ⟨fun _ hcf => (hc.pc (hcf i hi)).trans (wordPlus_natCast s.pc 4).symm,
      fun hne => absurd (hc.err.trans herr) hne⟩

/-- Settles O26: a fault leaves the flags alone, and so does a completed instruction that does not write them. -/
theorem onlyFlagSettersWriteFlags : Obligations.OnlyFlagSettersWriteFlags := by
  intro s t h hwhy
  obtain ⟨herr, ⟨site, rfl⟩ | ⟨i, hi, hc⟩⟩ := step_faulted_or_completed h
  · rfl
  · obtain hnot | hfault := hwhy
    · exact hc.flags (hnot i hi)
    · exact absurd (hc.err.trans herr) hfault

/-! ## Two states that differ in their flags -/

theorem checkAddSub_of_wellFormed {sf : BitVec 1} {shift : BitVec 2} {imm6 : BitVec 6}
    (h : (!(addSubShiftReserved shift || amountReserved sf imm6)) = true) (s : State) (body : Result) :
    checkAddSub sf shift imm6 s body = body := by
  obtain ⟨hshift, hamount⟩ : addSubShiftReserved shift = false ∧ amountReserved sf imm6 = false := by simpa using h
  simp [checkAddSub, hshift, hamount]

theorem checkLogical_of_wellFormed {sf : BitVec 1} {imm6 : BitVec 6} (h : (!amountReserved sf imm6) = true)
    (s : State) (body : Result) : checkLogical sf imm6 s body = body := by
  have hamount : amountReserved sf imm6 = false := by simpa using h
  simp [checkLogical, hamount]

/-- A flag setter with no reserved field overwrites all four flags, so that what they held is forgotten. -/
theorem exec_setFlags_of_flagSetter {i : Instr} (hw : writesFlags i = true) (hok : i.wellFormed = true) (s : State)
    (f : Flags) : exec i (s.setFlags f) = exec i s := by
  cases i with
  | addsImm | subsImm => rfl
  | addsShifted | subsShifted =>
    exact (checkAddSub_of_wellFormed hok _ _).trans (checkAddSub_of_wellFormed hok s _).symm
  | andsShifted | bicsShifted =>
    exact (checkLogical_of_wellFormed hok _ _).trans (checkLogical_of_wellFormed hok s _).symm
  | _ => exact absurd hw Bool.false_ne_true

/-- Settles O27: the shape of the meaning carries the flags through, and a flag setter that does not fault
overwrites them. -/
theorem onlyConditionalBranchReadsFlags : Obligations.OnlyConditionalBranchReadsFlags := by
  intro i s t f hr h
  obtain ⟨g, hg⟩ := (exec_meaning i).next_setFlags hr h f
  refine ⟨t.setFlags g, hg, rfl, fun hw hok => ?_⟩
  exact next_inj.mp (hg.symm.trans ((exec_setFlags_of_flagSetter hw hok s f).trans h))

end Sys2Proof.Machine
end

section
/-! SUPPORT and PROOFS. The register views, the condition table, the accessors and the frames of the
data-processing instructions (spec/10_state.md R33 to R36, R43 to R45, R51, R53). -/

namespace Sys2Proof.Machine

/-! ## The condition table and the state after reset -/

/-- Settles O9, row by row: the even codes are the base conditions themselves, an odd one below 15 is the
complement of its neighbour. -/
theorem conditionTable : Obligations.ConditionTable := by
  intro f
  have hLS : conditionHolds f 0b1001#4 = (!f.c || f.z) := by
    change (!(f.c && !f.z)) = _
    rw [Bool.not_and, Bool.not_not]
  have hGT : conditionHolds f 0b1100#4 = (!f.z && (f.n == f.v)) := Bool.and_comm _ _
  have hLE : conditionHolds f 0b1101#4 = (f.z || (f.n != f.v)) := by
    change (!(f.n == f.v && !f.z)) = _
    rw [Bool.not_and, Bool.not_not, Bool.or_comm]; rfl
  exact ⟨rfl, rfl, rfl, rfl, rfl, rfl, rfl, rfl, rfl, hLS, rfl, rfl, hGT, hLE, rfl, rfl⟩

/-- Settles O20, by `State.wf_reset`. -/
theorem resetRunsFromAnEmptyErrorSlot : Obligations.ResetRunsFromAnEmptyErrorSlot :=
  ⟨State.wf_reset, rfl, rfl⟩

/-! ## Register views (R33 to R35, R44, R45) -/

theorem ne_31_of_lt {i : RegIdx} (h : i.toNat < 31) : i ≠ 31#5 := by
  rintro rfl; exact absurd h (by decide)

theorem State.readX_of_lt (s : State) {i : RegIdx} (h : i.toNat < 31) : s.readX i = s.x[i.toNat] := dif_pos h

theorem State.writeX_of_lt (s : State) {i : RegIdx} (h : i.toNat < 31) (v : Word) :
    s.writeX i v = { s with x := s.x.set i.toNat v } := dif_pos h

/-- Settles O10, by the two views at index 31 and below it. -/
theorem registerViewsByIndex : Obligations.RegisterViewsByIndex := fun s =>
  ⟨s.readX_zr, s.writeX_zr,
    fun _ h v => ⟨s.readX_of_lt h, s.writeX_of_lt h v, s.readXSP_of_ne (ne_31_of_lt h),
      s.writeXSP_of_ne (ne_31_of_lt h) v⟩,
    s.readXSP_sp, s.writeXSP_sp⟩

/-- The narrow view of a 64-bit cell is its low half. -/
theorem setWidth_32_eq_extractLsb' (a : Word) : a.setWidth 32 = a.extractLsb' 0 32 :=
  BitVec.eq_of_toNat_eq (by simp)

theorem zext_64_eq_append (v : BitVec 32) : zext 64 v = 0#32 ++ v :=
  BitVec.setWidth_eq_append (by decide)

/-- Settles O11: a narrow read takes the low bits, a narrow write extends by zeros. -/
theorem narrowViewsClearTheRest : Obligations.NarrowViewsClearTheRest := by
  intro s i
  refine ⟨fun v => ⟨?_, ?_, ?_, ?_, ?_⟩, rfl, fun _ => rfl, fun w _ fits v => ⟨?_, ?_⟩⟩
  · exact setWidth_32_eq_extractLsb' (s.readX i)
  · exact setWidth_32_eq_extractLsb' (s.readXSP i)
  · exact congrArg (s.writeX i) (zext_64_eq_append v)
  · exact congrArg (s.writeXSP i) (zext_64_eq_append v)
  · rw [State.setGprSp, State.writeXSP_sp, zext_64_eq_append]
  · exact BitVec.toNat_setWidth ..
  · exact ⟨zext 128 v fits, toNat_zext v fits, rfl⟩

/-! ## Accessors (R53) -/

theorem State.readXSP_writeXSP_same (s : State) (i : RegIdx) (w : Word) : (s.writeXSP i w).readXSP i = w := by
  by_cases h : i = 31#5
  · rw [h, State.readXSP_sp, State.sp_writeXSP, if_pos rfl]
  · rw [State.readXSP_of_ne _ h, State.writeXSP_of_ne _ h, State.readX_writeX_same s h]

theorem State.readXSP_writeXSP_other (s : State) {i r : RegIdx} (h : r ≠ i) (w : Word) :
    (s.writeXSP i w).readXSP r = s.readXSP r := by
  by_cases hr : r = 31#5
  · subst hr
    rw [State.readXSP_sp, State.readXSP_sp, State.sp_writeXSP, if_neg h.symm]
  · rw [State.readXSP_of_ne _ hr, State.readXSP_of_ne _ hr, State.readX_writeXSP_other s h]

theorem readFlag_writeFlag_same (fl : Flags) (b : Bool) (f : FlagName) : readFlag (writeFlag fl b f) f = b := by
  cases f <;> rfl

theorem readFlag_writeFlag_other (fl : Flags) (b : Bool) {f g : FlagName} (h : g ≠ f) :
    readFlag (writeFlag fl b f) g = readFlag fl g := by
  cases f with
  | n => cases g with
    | n => exact absurd rfl h
    | _ => rfl
  | z => cases g with
    | z => exact absurd rfl h
    | _ => rfl
  | c => cases g with
    | c => exact absurd rfl h
    | _ => rfl
  | v => cases g with
    | v => exact absurd rfl h
    | _ => rfl

theorem readField_writeField_same {s : State} (hs : s.Inv) (k : Field) (v : FieldValue k) :
    readField (writeField s k v) k = v := by
  cases k with
  | gpr i => exact s.readXSP_writeXSP_same i v
  | simd i => exact s.readV_writeV_same i v
  | pc => rfl
  | flag f => exact readFlag_writeFlag_same s.flags v f
  | memoryByte a => exact State.readByte_writeByte_same hs a v

/-- A write of one field leaves the fields of the other kinds alone since each kind is a component of its own;
inside one kind it leaves the other indices alone. -/
theorem readField_writeField_other (s : State) {k m : Field} (h : m ≠ k) (v : FieldValue k) :
    readField (writeField s k v) m = readField s m := by
  cases k with
  | gpr i =>
    cases m with
    | gpr r => exact s.readXSP_writeXSP_other (fun e => h (congrArg Field.gpr e)) v
    | _ => simp [readField, writeField]
  | simd i =>
    cases m with
    | simd r => exact s.readV_writeV_other (fun e => h (congrArg Field.simd e)) v
    | _ => simp [readField, writeField]
  | pc =>
    cases m with
    | pc => exact absurd rfl h
    | _ => simp [readField, writeField]
  | flag f =>
    cases m with
    | flag g => exact readFlag_writeFlag_other s.flags v (fun e => h (congrArg Field.flag e))
    | _ => simp [readField, writeField]
  | memoryByte a =>
    cases m with
    | memoryByte b => exact s.readByte_writeByte_other (fun e => h (congrArg Field.memoryByte e)) v
    | _ => simp [readField, writeField]

/-- Settles O12, by the two accessor laws and the views of the general-purpose registers. -/
theorem accessorLaws : Obligations.AccessorLaws := fun s hs =>
  ⟨readField_writeField_same hs, fun _ _ v h => readField_writeField_other s h v,
    fun _ h => (s.readXSP_of_ne (ne_31_of_lt h)).trans (s.readX_of_lt h), s.readXSP_sp⟩

/-! ## Frames of the data-processing instructions (R36, R42, R51) -/

/-- The instruction faulted, or wrote the flags `f` and `X[d]` and moved on. -/
def FaultedOrWroteX (rd : RegIdx) (f : Flags) (s t : State) : Prop :=
  (∃ site, t = s.faulted site) ∨ ∃ w, t = ((s.setFlags f).writeX rd w).advance

namespace FaultedOrWroteX
variable {rd : RegIdx} {f : Flags} {s t : State}

theorem faulted {site : FaultSite} (h : t = s.faulted site) : FaultedOrWroteX rd f s t := .inl ⟨site, h⟩

/-- An instruction that writes no flag writes back the flags it found. -/
theorem wroteX {w : Word} (h : t = (s.writeX rd w).advance) : FaultedOrWroteX rd s.flags s t := .inr ⟨w, h⟩

theorem wroteFlagsAndX {w : Word} (h : t = ((s.setFlags f).writeX rd w).advance) : FaultedOrWroteX rd f s t :=
  .inr ⟨w, h⟩

/-- What every such instruction leaves unchanged. -/
theorem frame (h : FaultedOrWroteX rd f s t) : keepsX s t [rd] ∧ (rd = 31#5 → t.x = s.x) ∧ t.sp = s.sp ∧
    t.v = s.v ∧ keepsMem s t ∧ keepsErr s t := by
  obtain ⟨site, rfl⟩ | ⟨w, rfl⟩ := h
  · exact ⟨fun r _ => State.readX_faulted .., fun _ => rfl, rfl, rfl, fun a => State.readByte_faulted .., .inr rfl⟩
  · refine ⟨fun r hr => ?_, ?_, by simp, by simp, fun a => by simp, .inl (by simp)⟩
    · have hne : r ≠ rd := by simpa using hr
      simp [State.readX_writeX_other _ hne]
    · rintro rfl
      simp

theorem flags_eq (h : FaultedOrWroteX rd s.flags s t) : t.flags = s.flags := by
  obtain ⟨site, rfl⟩ | ⟨w, rfl⟩ := h <;> simp

end FaultedOrWroteX

section
variable {sf : BitVec 1} {rm rn rd : RegIdx} {imm6 : BitVec 6} {shift : BitVec 2} {s t : State}

theorem moveWide_writesX {value : BitVec (datasize sf)} {hw : BitVec 2} (h : moveWide sf value hw rd s = .next t) :
    FaultedOrWroteX rd s.flags s t := by
  obtain ⟨-, ht⟩ | ⟨-, ht⟩ := moveWide_cases h
  · exact .faulted ht
  · exact .wroteX ht

theorem addSubShifted_writesX {sub : Bool} (h : addSubShifted sub sf shift rm imm6 rn rd s = .next t) :
    FaultedOrWroteX rd s.flags s t := by
  obtain ⟨-, ht⟩ | ⟨-, -, ht⟩ | ⟨-, -, ht⟩ := addSubShifted_cases h
  · exact .faulted ht
  · exact .faulted ht
  · exact .wroteX ht

/-- The six logical instructions without flags differ in the value they write only. -/
theorem checkLogical_writesX {w : Word} (h : checkLogical sf imm6 s (.next (s.writeX rd w).advance) = .next t) :
    FaultedOrWroteX rd s.flags s t := by
  obtain ⟨-, ht⟩ | ⟨-, ht⟩ := checkLogical_cases h
  · exact .faulted ht
  · exact .wroteX (next_inj.mp ht).symm

theorem addSubImmFlags_writesX {sub : Bool} {sh : BitVec 1} {imm12 : BitVec 12}
    (h : addSubImmFlags sub sf sh imm12 rn rd s = .next t) : ∃ f, FaultedOrWroteX rd f s t :=
  ⟨_, .wroteFlagsAndX (addSubImmFlags_next h)⟩

theorem addSubShiftedFlags_writesX {sub : Bool} (h : addSubShiftedFlags sub sf shift rm imm6 rn rd s = .next t) :
    ∃ f, FaultedOrWroteX rd f s t := by
  obtain ⟨-, ht⟩ | ⟨-, -, ht⟩ | ⟨-, -, ht⟩ := addSubShiftedFlags_cases h
  · exact ⟨s.flags, .faulted ht⟩
  · exact ⟨s.flags, .faulted ht⟩
  · exact ⟨_, .wroteFlagsAndX ht⟩

theorem andShiftedFlags_writesX {invert : Bool} (h : andShiftedFlags invert sf shift rm imm6 rn rd s = .next t) :
    ∃ f, FaultedOrWroteX rd f s t := by
  obtain ⟨-, ht⟩ | ⟨-, r, -, ht⟩ := andShiftedFlags_cases h
  · exact ⟨s.flags, .faulted ht⟩
  · exact ⟨_, .wroteFlagsAndX ht⟩

/-- ADD and SUB (immediate) write through the stack-pointer view: SP is the one cell besides `X[d]`. -/
theorem addSubImm_frame {sub : Bool} {sh : BitVec 1} {imm12 : BitVec 12}
    (h : addSubImm sub sf sh imm12 rn rd s = .next t) : keepsX s t [rd] ∧ (rd ≠ 31#5 → t.sp = s.sp) ∧ t.v = s.v ∧
      t.flags = s.flags ∧ keepsMem s t ∧ t.err = s.err := by
  obtain rfl := addSubImm_next h
  refine ⟨fun r hr => ?_, fun hne => ?_, by simp, by simp, fun a => by simp, by simp⟩
  · have hne : r ≠ rd := by simpa using hr
    simp [State.setGprSp, State.readX_writeXSP_other _ hne]
  · simp [State.setGprSp, State.sp_writeXSP, hne]

end

/-- Settles O56: the first thirteen write `X[d]` at most, the immediate forms write through the stack-pointer
view. -/
theorem frameDataProcessingWithoutFlags : Obligations.FrameDataProcessingWithoutFlags := by
  refine ⟨?_, ?_⟩
  · intro hw imm16 immlo immhi sf shift rm imm6 rn rd s t h
    have hwrote : FaultedOrWroteX rd s.flags s t := by
      obtain h | h | h | h | h | h | h | h | h | h | h | h | h := h
      · exact moveWide_writesX h
      · exact moveWide_writesX h
      · exact moveWide_writesX h
      · exact .wroteX (next_inj.mp h).symm
      · exact .wroteX (next_inj.mp h).symm
      · exact addSubShifted_writesX h
      · exact addSubShifted_writesX h
      all_goals exact checkLogical_writesX h
    obtain ⟨hx, -, hsp, hv, hmem, herr⟩ := hwrote.frame
    exact ⟨hx, hsp, hv, hwrote.flags_eq, hmem, herr⟩
  · intro sf sh imm12 rn rd s t h
    obtain h | h := h
    · exact addSubImm_frame h
    · exact addSubImm_frame h

/-- Settles O57, by the one frame of the instructions that write the flags and `X[d]`. -/
theorem frameDataProcessingWithFlags : Obligations.FrameDataProcessingWithFlags := by
  intro sh imm12 sf shift rm imm6 rn rd s t h
  have hwrote : ∃ f, FaultedOrWroteX rd f s t := by
    obtain h | h | h | h | h | h := h
    · exact addSubImmFlags_writesX h
    · exact addSubImmFlags_writesX h
    · exact addSubShiftedFlags_writesX h
    · exact addSubShiftedFlags_writesX h
    · exact andShiftedFlags_writesX h
    · exact andShiftedFlags_writesX h
  obtain ⟨f, hf⟩ := hwrote
  exact hf.frame

end Sys2Proof.Machine
end

section
/-! SUPPORT and PROOFS. Memory as a map of bytes (spec/20_memory.md R71 to R74, R95): canonical lists that read
alike are equal, a write is given by the byte each address reads after it, and a read of several bytes by its
bytes. The statements about reads and writes follow from these three. -/

namespace Sys2Proof.Machine

/-! ## Canonical memories are determined by their bytes -/

theorem Memory.wfFrom_cons_iff {lo k : Nat} {b : Byte} {rest : List Host.Cell} :
    Memory.wfFrom lo ((k, b) :: rest) = true ↔
      lo ≤ k ∧ k < 2 ^ 64 ∧ b ≠ Config.unlistedByte ∧ Memory.wfFrom (k + 1) rest = true := by
  simp only [Memory.wfFrom, Bool.and_eq_true, decide_eq_true_eq, bne_iff_ne, and_assoc]

theorem Memory.read_cons_same (k : Nat) (b : Byte) (rest : List Host.Cell) :
    Memory.read ((k, b) :: rest) k = b := if_pos rfl

theorem Memory.read_cons_other {k a : Nat} (h : k ≠ a) (b : Byte) (rest : List Host.Cell) :
    Memory.read ((k, b) :: rest) a = Memory.read rest a := if_neg h

/-- The first address of a canonical list is listed in every canonical list that reads alike, so that such a
list does not begin above it. -/
theorem Memory.first_le_of_read_eq {lo k k' : Nat} {b b' : Byte} {rest rest' : List Host.Cell}
    (h : Memory.wfFrom lo ((k, b) :: rest) = true) (h' : Memory.wfFrom lo ((k', b') :: rest') = true)
    (heq : ∀ a, a < 2 ^ 64 → Memory.read ((k, b) :: rest) a = Memory.read ((k', b') :: rest') a) : k' ≤ k := by
  obtain ⟨-, hk, hb, -⟩ := Memory.wfFrom_cons_iff.mp h
  obtain ⟨-, hk', hb', hrest'⟩ := Memory.wfFrom_cons_iff.mp h'
  by_contra hlt
  have hfrom : Memory.wfFrom k' ((k', b') :: rest') = true :=
    Memory.wfFrom_cons_iff.mpr ⟨Nat.le_refl k', hk', hb', hrest'⟩
  have hread := heq k hk
  rw [Memory.read_cons_same, Memory.read_below hfrom (Nat.lt_of_not_le hlt)] at hread
  exact hb hread

/-- Two canonical lists that read alike at every address are the same list. -/
theorem Memory.eq_of_read_eq {m m' : List Host.Cell} {lo : Nat} (h : Memory.wfFrom lo m = true)
    (h' : Memory.wfFrom lo m' = true) (heq : ∀ a, a < 2 ^ 64 → Memory.read m a = Memory.read m' a) : m = m' := by
  induction m generalizing lo m' with
  | nil =>
    cases m' with
    | nil => rfl
    | cons c' rest' =>
      obtain ⟨k', b'⟩ := c'
      obtain ⟨-, hk', hb', -⟩ := Memory.wfFrom_cons_iff.mp h'
      exact absurd ((heq k' hk').trans (Memory.read_cons_same k' b' rest')).symm hb'
  | cons c rest ih =>
    obtain ⟨k, b⟩ := c
    obtain ⟨-, hk, hb, hrest⟩ := Memory.wfFrom_cons_iff.mp h
    cases m' with
    | nil => exact absurd ((Memory.read_cons_same k b rest).symm.trans (heq k hk)) hb
    | cons c' rest' =>
      obtain ⟨k', b'⟩ := c'
      obtain ⟨-, -, -, hrest'⟩ := Memory.wfFrom_cons_iff.mp h'
      obtain rfl : k = k' := Nat.le_antisymm
        (Memory.first_le_of_read_eq h' h fun a ha => (heq a ha).symm) (Memory.first_le_of_read_eq h h' heq)
      obtain rfl : b = b' := by simpa only [Memory.read_cons_same] using heq k hk
      have htail : rest = rest' := by
        refine ih hrest hrest' fun a ha => ?_
        by_cases hka : k = a
        · rw [Memory.read_below hrest (by omega), Memory.read_below hrest' (by omega)]
        · simpa only [Memory.read_cons_other hka] using heq a ha
      rw [htail]

/-- Two states with canonical memories are equal when every byte reads alike and the other components agree. -/
theorem State.eq_of_readByte_eq {s t : State} (hs : s.Inv) (ht : t.Inv) (hx : t.x = s.x) (hsp : t.sp = s.sp)
    (hv : t.v = s.v) (hpc : t.pc = s.pc) (hflags : t.flags = s.flags) (herr : t.err = s.err)
    (h : ∀ a, t.readByte a = s.readByte a) : t = s := by
  have hmem : t.mem = s.mem := Memory.eq_of_read_eq ht hs fun a ha => by
    simpa only [State.readByte, BitVec.toNat_ofNat, Nat.mod_eq_of_lt ha] using h (BitVec.ofNat 64 a)
  cases s
  cases t
  simp_all only

/-! ## The bytes of a write and of a read (R71, R72) -/

/-- The offset of a byte of an access from the access's base. -/
theorem toNat_add_ofNat_sub (addr : Word) {i : Nat} (hi : i < 2 ^ 64) :
    (addr + BitVec.ofNat 64 i - addr).toNat = i := by
  rw [BitVec.add_comm, BitVec.add_sub_cancel, BitVec.toNat_ofNat, Nat.mod_eq_of_lt hi]

theorem add_ofNat_toNat_sub (addr r : Word) : addr + BitVec.ofNat 64 (r - addr).toNat = r := by
  rw [BitVec.ofNat_toNat, BitVec.setWidth_eq, BitVec.add_comm, BitVec.sub_add_cancel]

/-- What each address reads after a write: its byte of the value where the offset from the base is below the
length, and what it read before elsewhere. -/
theorem State.readByte_memWrite {s : State} (hs : s.Inv) (addr : Word) {n : Nat} (hn : n ≤ 2 ^ 64)
    (v : BitVec (8 * n)) (r : Word) :
    (s.memWrite addr n v).readByte r =
      if (r - addr).toNat < n then elem 8 v (r - addr).toNat else s.readByte r := by
  split
  · next hin =>
    have hat := State.readByte_storeBytes_at hs addr (fun i => elem 8 v i) hn hin
    rwa [add_ofNat_toNat_sub] at hat
  · next hout =>
    refine State.readByte_storeBytes_other s addr _ n r fun k hk hr => hout ?_
    rwa [hr, toNat_add_ofNat_sub addr (by omega)]

theorem State.readByte_memWrite_at {s : State} (hs : s.Inv) (addr : Word) {n i : Nat} (hn : n ≤ 2 ^ 64)
    (v : BitVec (8 * n)) (hi : i < n) : (s.memWrite addr n v).readByte (addr + BitVec.ofNat 64 i) = elem 8 v i :=
  State.readByte_storeBytes_at hs addr _ hn hi

/-- A byte of a value is an extract at eight times its index. -/
theorem elem_8_eq {n : Nat} (v : BitVec n) (i : Nat) : elem 8 v i = v.extractLsb' (8 * i) 8 := by
  rw [elem, Nat.mul_comm]

theorem State.elem_memRead (s : State) (addr : Word) {n i : Nat} (hi : i < n) :
    elem 8 (s.memRead addr n) i = s.readByte (addr + BitVec.ofNat 64 i) :=
  elem_fromLanes _ hi

/-- A read gives a value exactly when every byte read is that byte of the value. -/
theorem State.memRead_eq_iff {s : State} {addr : Word} {n : Nat} {u : BitVec (8 * n)} :
    s.memRead addr n = u ↔ ∀ i, i < n → s.readByte (addr + BitVec.ofNat 64 i) = elem 8 u i := by
  constructor
  · rintro rfl i hi
    exact (s.elem_memRead addr hi).symm
  · intro h
    exact eq_of_elem_eq (by decide) fun i hi => (s.elem_memRead addr hi).trans (h i hi)

/-! ## The read-after-write laws (R73) -/

theorem State.memRead_memWrite_same {s : State} (hs : s.Inv) (addr : Word) {n : Nat} (hn : n ≤ 2 ^ 64)
    (v : BitVec (8 * n)) : (s.memWrite addr n v).memRead addr n = v :=
  State.memRead_eq_iff.mpr fun _ hi => State.readByte_memWrite_at hs addr hn v hi

/-- A read of bytes none of which the write reaches. -/
theorem State.memRead_memWrite_other (s : State) {addr addr' : Word} {n n' : Nat} (v : BitVec (8 * n))
    (h : ∀ i j, i < n → j < n' → addr' + BitVec.ofNat 64 j ≠ addr + BitVec.ofNat 64 i) :
    (s.memWrite addr n v).memRead addr' n' = s.memRead addr' n' := by
  refine State.memRead_eq_iff.mpr fun j hj => ?_
  rw [State.elem_memRead s addr' hj]
  exact State.readByte_storeBytes_other s addr _ n _ fun i hi => h i j hi hj

theorem State.memWrite_memRead {s : State} (hs : s.Inv) (addr : Word) {n : Nat} (hn : n ≤ 2 ^ 64) :
    s.memWrite addr n (s.memRead addr n) = s := by
  refine State.eq_of_readByte_eq hs (State.wf_memWrite hs _ _ _) (by simp) (by simp) (by simp) (by simp) (by simp)
    (by simp) fun r => ?_
  rw [State.readByte_memWrite hs addr hn]
  split
  · next hin => rw [s.elem_memRead addr hin, add_ofNat_toNat_sub]
  · rfl

/-! ## The fetch reads memory (R74, R95) -/

theorem fromLanes_four_bytes (f : Nat → Byte) : fromLanes 8 4 f = wordOfBytes (f 0) (f 1) (f 2) (f 3) := by
  have htop : fromLanes 8 1 (fun e => f (e + 3)) = f 3 := BitVec.zero_width_append _ _
  exact congrArg (fun b : Byte => b ++ f 2 ++ f 1 ++ f 0) htop

theorem State.wordAt_eq_wordOfBytes (s : State) (addr : Word) :
    s.wordAt addr = wordOfBytes (s.readByte addr) (s.readByte (addr + 1#64)) (s.readByte (addr + 2#64))
      (s.readByte (addr + 3#64)) := by
  rw [State.wordAt, State.memRead, fromLanes_four_bytes, BitVec.add_zero]

theorem placeFetchWord_eq (s : State) (w : InstrWord) : placeFetchWord s 32 w.toNat = s.memWrite s.pc 4 w := by
  rw [placeFetchWord, Nat.mod_eq_of_lt w.isLt, BitVec.ofNat_toNat, BitVec.setWidth_eq]

theorem pcMisaligned_of_aligned {s : State} (h : s.pc.toNat % 4 = 0) : pcMisaligned s = false := by
  have hlow : s.pc.extractLsb' 0 2 = 0#2 := BitVec.eq_of_toNat_eq (by simpa using h)
  simp [pcMisaligned, hlow]

theorem State.wordAt_memWrite_same {s : State} (hs : s.Inv) (addr : Word) (w : InstrWord) :
    (s.memWrite addr 4 w).wordAt addr = w :=
  State.memRead_memWrite_same (n := 4) hs addr (by decide) w

/-- Where the pc test passes the fetch decodes the word at pc. -/
theorem fetchDecode_of_aligned {s : State} (h : s.pc.toNat % 4 = 0) : fetchDecode s = decode (s.wordAt s.pc) := by
  rw [fetchDecode, pcMisaligned_of_aligned h, if_neg Bool.false_ne_true]

/-- A step from an empty error slot runs the instruction its fetch decodes. -/
theorem step_of_fetchDecode {s : State} {i : Instr} (herr : s.err = .none) (hd : fetchDecode s = .instr i) :
    step s = exec i s := by
  simp [step, isFaulted, herr, hd]

/-! ## The statements -/

/-- Settles O13: a byte of the read is a lane of the reassembly, and the fetch is the read of four bytes. -/
theorem memReadIsLittleEndian : Obligations.MemReadIsLittleEndian := fun s =>
  ⟨fun addr _ i hi => (elem_8_eq _ i).symm.trans (s.elem_memRead addr hi), rfl, s.wordAt_eq_wordOfBytes s.pc, rfl⟩

/-- Settles O14, by what each address reads after the write. -/
theorem memWriteSetsItsBytesOnly : Obligations.MemWriteSetsItsBytesOnly := by
  intro s addr n v hs hn
  refine ⟨fun i hi => ?_, fun a ha => ?_, memWrite_eq s addr n v⟩
  · rw [State.readByte_memWrite_at hs addr hn v hi, elem_8_eq]
  · rw [State.readByte_memWrite hs addr hn, if_neg (Nat.not_lt.mpr ha)]

/-- Settles O15, by the three laws; the sizes are far below the size of the address space. -/
theorem readAfterWriteLaws : Obligations.ReadAfterWriteLaws := by
  intro s addr n v hs hsize
  have hn : n ≤ 2 ^ 64 := by
    simp only [List.mem_cons, List.not_mem_nil, or_false] at hsize
    omega
  exact ⟨State.memRead_memWrite_same hs addr hn v, fun _ _ h => State.memRead_memWrite_other s v h,
    State.memWrite_memRead hs addr hn⟩

/-- Settles O29: the pc test passes, and the fetch reads back the stored word. -/
theorem storedWordIsTheNextInstruction : Obligations.StoredWordIsTheNextInstruction := by
  intro s w i hs herr hpc hdec
  have herr' : (s.memWrite s.pc 4 w).err = .none := (State.memWrite_err s s.pc 4 w).trans herr
  have hpc' : (s.memWrite s.pc 4 w).pc = s.pc := State.memWrite_pc s s.pc 4 w
  have hfetch : fetchDecode (s.memWrite s.pc 4 w) = .instr i := by
    rw [fetchDecode_of_aligned (by rw [hpc']; exact hpc), hpc', State.wordAt_memWrite_same hs, hdec]
  exact ⟨placeFetchWord_eq s w, step_of_fetchDecode herr' hfetch⟩

end Sys2Proof.Machine
end

section
/-! SUPPORT and PROOFS. Regions (spec/20_memory.md R83 to R91): the predicates read as inequalities between
natural numbers, the bytes a legal region holds, and what that says of reads and writes. -/

namespace Sys2Proof.Machine

/-! ## The predicates as inequalities (R84 to R86) -/

theorem legal_iff {r : Region} : legal r = true ↔ r.base.toNat + r.len ≤ 2 ^ 64 := decide_eq_true_iff

theorem subset_iff {r t : Region} : subset r t = true ↔ legal r = true ∧ legal t = true ∧
    (r.len = 0 ∨ t.base.toNat ≤ r.base.toNat ∧ r.base.toNat + r.len ≤ t.base.toNat + t.len) := by
  simp only [subset, Bool.and_eq_true, Bool.or_eq_true, decide_eq_true_eq, and_assoc]

theorem separate_iff {r t : Region} : separate r t = true ↔ legal r = true ∧ legal t = true ∧
    (r.len = 0 ∨ t.len = 0 ∨ r.base.toNat + r.len ≤ t.base.toNat ∨ t.base.toNat + t.len ≤ r.base.toNat) := by
  simp only [separate, Bool.and_eq_true, Bool.or_eq_true, decide_eq_true_eq, and_assoc, or_assoc]

/-! ## The laws of the predicates (R87, R88) -/

theorem legal_of_len_eq_zero {r : Region} (h : r.len = 0) : legal r = true := by
  rw [legal_iff, h]
  exact Nat.le_of_lt r.base.isLt

theorem separate_comm (r t : Region) : separate r t = separate t r := by
  rw [Bool.eq_iff_iff, separate_iff, separate_iff]
  tauto

theorem subset_refl {r : Region} (h : legal r = true) : subset r r = true :=
  subset_iff.mpr ⟨h, h, .inr ⟨Nat.le_refl _, Nat.le_refl _⟩⟩

theorem subset_trans {r t u : Region} (h : subset r t = true) (h' : subset t u = true) : subset r u = true := by
  obtain ⟨hr, -, hrt⟩ := subset_iff.mp h
  obtain ⟨-, hu, htu⟩ := subset_iff.mp h'
  exact subset_iff.mpr ⟨hr, hu, by omega⟩

theorem separate_of_subset {r t u : Region} (h : subset r t = true) (h' : separate t u = true) :
    separate r u = true := by
  obtain ⟨hr, -, hrt⟩ := subset_iff.mp h
  obtain ⟨-, hu, htu⟩ := separate_iff.mp h'
  exact separate_iff.mpr ⟨hr, hu, by omega⟩

/-- Settles O16, law by law. -/
theorem regionPredicateLaws : Obligations.RegionPredicateLaws := by
  intro a b c
  refine ⟨fun hlen => ⟨legal_of_len_eq_zero hlen, fun hb => ?_⟩, separate_comm a b, subset_refl, subset_trans,
    separate_of_subset, fun h => ?_, fun h => ?_⟩
  · have ha := legal_of_len_eq_zero hlen
    exact ⟨separate_iff.mpr ⟨ha, hb, .inl hlen⟩, subset_iff.mpr ⟨ha, hb, .inl hlen⟩⟩
  · obtain ⟨ha, hb, -⟩ := subset_iff.mp h
    exact ⟨ha, hb⟩
  · obtain ⟨ha, hb, -⟩ := separate_iff.mp h
    exact ⟨ha, hb⟩

/-! ## Ordered lists of regions (R91) -/

/-- The first region of an ordered list is legal and ends at or before every later base. -/
theorem orderedDisjoint_head {r : Region} {rest : List Region} (h : orderedDisjoint (r :: rest) = true) :
    legal r = true ∧ ∀ t ∈ rest, legal t = true ∧ r.base.toNat + r.len ≤ t.base.toNat := by
  induction rest generalizing r with
  | nil => exact ⟨h, nofun⟩
  | cons t rest ih =>
    simp only [orderedDisjoint, Bool.and_eq_true, decide_eq_true_eq] at h
    obtain ⟨⟨hr, hrt⟩, hordered⟩ := h
    obtain ⟨ht, hlater⟩ := ih hordered
    refine ⟨hr, List.forall_mem_cons.mpr ⟨⟨ht, hrt⟩, fun u hu => ?_⟩⟩
    obtain ⟨hul, htu⟩ := hlater u hu
    exact ⟨hul, by omega⟩

theorem orderedDisjoint_tail {r : Region} {rest : List Region} (h : orderedDisjoint (r :: rest) = true) :
    orderedDisjoint rest = true := by
  cases rest with
  | nil => rfl
  | cons t rest =>
    rw [orderedDisjoint, Bool.and_eq_true] at h
    exact h.2

/-- Settles O18, by induction on the list: the first region lies below all the others. -/
theorem orderedRegionsArePairwiseSeparate : Obligations.OrderedRegionsArePairwiseSeparate := by
  intro rs h
  induction rs with
  | nil => rfl
  | cons r rest ih =>
    obtain ⟨hr, hlater⟩ := orderedDisjoint_head h
    rw [pairwiseSeparate, Bool.and_eq_true, List.all_eq_true]
    refine ⟨fun t ht => ?_, ih (orderedDisjoint_tail h)⟩
    obtain ⟨htl, hle⟩ := hlater t ht
    exact separate_iff.mpr ⟨hr, htl, .inr (.inr (.inl hle))⟩

/-! ## The bytes of a legal region (R83, R84) -/

section LegalRegion
variable {a : Word} {n : Nat}

/-- A legal region does not wrap: its addresses are its base plus their index, as natural numbers. -/
theorem toNat_add_ofNat_of_legal (h : legal ⟨a, n⟩ = true) {i : Nat} (hi : i < n) :
    (a + BitVec.ofNat 64 i).toNat = a.toNat + i := by
  have hle : a.toNat + n ≤ 2 ^ 64 := legal_iff.mp h
  rw [BitVec.toNat_add, BitVec.toNat_ofNat, Nat.add_mod_mod, Nat.mod_eq_of_lt (by omega)]

/-- The offset test of a write is the interval test where the region is legal. -/
theorem offset_lt_iff_of_legal (h : legal ⟨a, n⟩ = true) (r : Word) :
    (r - a).toNat < n ↔ a.toNat ≤ r.toNat ∧ r.toNat < a.toNat + n := by
  have hle : a.toNat + n ≤ 2 ^ 64 := legal_iff.mp h
  rw [BitVec.toNat_sub]
  omega

end LegalRegion

/-! ## Reads and writes of regions (R90) -/

section Regions
variable {a b : Word} {n m : Nat}

/-- No byte lies in two separate regions. -/
theorem not_mem_both_of_separate (h : separate ⟨a, n⟩ ⟨b, m⟩ = true) (r : Word) :
    ¬ ((r - a).toNat < n ∧ (r - b).toNat < m) := by
  obtain ⟨ha, hb, hsep⟩ := separate_iff.mp h
  rw [offset_lt_iff_of_legal ha, offset_lt_iff_of_legal hb]
  dsimp only at hsep
  omega

theorem State.memRead_memWrite_separate (s : State) (hn : n ≤ 2 ^ 64) (hm : m ≤ 2 ^ 64)
    (h : separate ⟨a, n⟩ ⟨b, m⟩ = true) (v : BitVec (8 * m)) : (s.memWrite b m v).memRead a n = s.memRead a n := by
  refine State.memRead_memWrite_other s v fun i j hi hj heq => ?_
  refine not_mem_both_of_separate h (a + BitVec.ofNat 64 j) ⟨?_, ?_⟩
  · rwa [toNat_add_ofNat_sub a (by omega)]
  · rwa [heq, toNat_add_ofNat_sub b (by omega)]

theorem elem_8_extractLsb' {w : Nat} (v : BitVec w) (d : Nat) {n i : Nat} (hi : i < n) :
    elem 8 (v.extractLsb' (8 * d) (8 * n)) i = elem 8 v (d + i) := by
  apply BitVec.eq_of_getLsbD_eq
  intro k hk
  have hin : i * 8 + k < 8 * n := by omega
  have hpos : 8 * d + (i * 8 + k) = (d + i) * 8 + k := by omega
  simp [elem, hk, hin, hpos]

/-- A byte of an inner region stands in the outer one at the distance of the bases plus its own index. -/
theorem offset_of_subset (h : subset ⟨a, n⟩ ⟨b, m⟩ = true) {i : Nat} (hi : i < n) :
    (a + BitVec.ofNat 64 i - b).toNat = a.toNat - b.toNat + i ∧ a.toNat - b.toNat + i < m := by
  obtain ⟨ha, hb, hsub⟩ := subset_iff.mp h
  have hle : b.toNat + m ≤ 2 ^ 64 := legal_iff.mp hb
  dsimp only at hsub
  rw [BitVec.toNat_sub, toNat_add_ofNat_of_legal ha hi]
  omega

theorem State.memRead_memWrite_subset {s : State} (hs : s.Inv) (hm : m ≤ 2 ^ 64)
    (h : subset ⟨a, n⟩ ⟨b, m⟩ = true) (v : BitVec (8 * m)) :
    (s.memWrite b m v).memRead a n = v.extractLsb' (8 * (a.toNat - b.toNat)) (8 * n) := by
  refine State.memRead_eq_iff.mpr fun i hi => ?_
  obtain ⟨hoff, hlt⟩ := offset_of_subset h hi
  rw [State.readByte_memWrite hs b hm, hoff, if_pos hlt, elem_8_extractLsb' v _ hi]

/-- Writes to separate regions commute: each address takes its byte from the one write that reaches it. -/
theorem State.memWrite_comm_of_separate {s : State} (hs : s.Inv) (hn : n ≤ 2 ^ 64) (hm : m ≤ 2 ^ 64)
    (h : separate ⟨a, n⟩ ⟨b, m⟩ = true) (v : BitVec (8 * n)) (w : BitVec (8 * m)) :
    (s.memWrite a n v).memWrite b m w = (s.memWrite b m w).memWrite a n v := by
  have hv : (s.memWrite a n v).Inv := State.wf_memWrite hs a n v
  have hw : (s.memWrite b m w).Inv := State.wf_memWrite hs b m w
  refine State.eq_of_readByte_eq (State.wf_memWrite hw a n v) (State.wf_memWrite hv b m w) (by simp) (by simp)
    (by simp) (by simp) (by simp) (by simp) fun r => ?_
  rw [State.readByte_memWrite hv b hm, State.readByte_memWrite hs a hn, State.readByte_memWrite hw a hn,
    State.readByte_memWrite hs b hm]
  by_cases hb : (r - b).toNat < m
  · have ha : ¬ (r - a).toNat < n := fun ha => not_mem_both_of_separate h r ⟨ha, hb⟩
    rw [if_pos hb, if_pos hb, if_neg ha]
  · rw [if_neg hb, if_neg hb]

end Regions

/-- Settles O17, by the three facts of R90. -/
theorem regionsBoundAccesses : Obligations.RegionsBoundAccesses := fun s _ _ _ _ hs hn hm =>
  ⟨fun h v => s.memRead_memWrite_separate hn hm h v, fun h _ v => State.memRead_memWrite_subset hs hm h v,
    fun h v w => State.memWrite_comm_of_separate hs hn hm h v w⟩

end Sys2Proof.Machine
end

section
/-! SUPPORT and PROOFS. Loads and stores on the stack pointer (spec/20_memory.md R78, spec/43_loads_and_stores.md
R232, R233). -/

namespace Sys2Proof.Machine

/-- The meaning of an operation in every addressing form, as the shared operation of its direction and register
bank (spec/43_loads_and_stores.md R230). -/
def ldstMeaning (form : AddrForm) (rn rt : RegIdx) (s : State) : LdstOp → Result
  | .strb => storeGpr 0 form rn rt s
  | .strh => storeGpr 1 form rn rt s
  | .strW => storeGpr 2 form rn rt s
  | .strX => storeGpr 3 form rn rt s
  | .ldrb => loadGpr 0 form rn rt s
  | .ldrh => loadGpr 1 form rn rt s
  | .ldrW => loadGpr 2 form rn rt s
  | .ldrX => loadGpr 3 form rn rt s
  | .strSimdB => storeSimd 0 form rn rt s
  | .strSimdH => storeSimd 1 form rn rt s
  | .strSimdS => storeSimd 2 form rn rt s
  | .strSimdD => storeSimd 3 form rn rt s
  | .strSimdQ => storeSimd 4 form rn rt s
  | .ldrSimdB => loadSimd 0 form rn rt s
  | .ldrSimdH => loadSimd 1 form rn rt s
  | .ldrSimdS => loadSimd 2 form rn rt s
  | .ldrSimdD => loadSimd 3 form rn rt s
  | .ldrSimdQ => loadSimd 4 form rn rt s

theorem exec_ldstInstr (op : LdstOp) (form : AddrForm) (rn rt : RegIdx) (s : State) :
    exec (ldstInstr rn rt op form) s = ldstMeaning form rn rt s op := by
  cases op <;> cases form <;> rfl

/-- The result is the tail of R232 around an access that, with its write-back, is a plain update. -/
def IsPlainLdst (form : AddrForm) (rn : RegIdx) (m : State → Result) : Prop :=
  ∃ (scale : Nat) (access : State → Word → State → State),
    PlainUpdate (fun s => access s (ldstAddress scale form rn s).1 s) ∧
    ∀ s, m s = ldstStep scale form rn (access s) s

/-- SP as the base is never a write-back conflict (R233 (b)). -/
theorem checkWriteback_sp (form : AddrForm) (rt : RegIdx) (s : State) (body : Result) :
    checkWriteback form 31#5 rt s body = body := by
  have hnone : writebackConflict 31#5 rt = false := Bool.and_false _
  rw [checkWriteback, hnone, Bool.and_false, if_neg Bool.false_ne_true]

theorem storeGpr_sp_isPlainLdst (scale : Nat) (form : AddrForm) (rt : RegIdx) (h : scale ≤ 3) :
    IsPlainLdst form 31#5 (fun s => storeGpr scale form 31#5 rt s h) :=
  ⟨scale, _, PlainUpdate.id.memWrite (fun _ _ => rfl) (2 ^ scale) (fun _ _ => rfl), fun _ => checkWriteback_sp ..⟩

theorem loadGpr_sp_isPlainLdst (scale : Nat) (form : AddrForm) (rt : RegIdx) (h : scale ≤ 3) :
    IsPlainLdst form 31#5 (fun s => loadGpr scale form 31#5 rt s h) :=
  ⟨scale, _, PlainUpdate.id.writeX rt (fun _ _ => rfl), fun _ => checkWriteback_sp ..⟩

theorem storeSimd_isPlainLdst (scale : Nat) (form : AddrForm) (rn rt : RegIdx) (h : scale ≤ 4) :
    IsPlainLdst form rn (fun s => storeSimd scale form rn rt s h) :=
  ⟨scale, fun s a t => t.memWrite a (2 ^ scale) (s.vpart (8 * 2 ^ scale) rt (simdAccess_le_128 h)),
    PlainUpdate.id.memWrite (fun _ _ => rfl) (2 ^ scale) (fun _ _ => rfl), fun _ => rfl⟩

theorem loadSimd_isPlainLdst (scale : Nat) (form : AddrForm) (rn rt : RegIdx) (h : scale ≤ 4) :
    IsPlainLdst form rn (fun s => loadSimd scale form rn rt s h) :=
  ⟨scale, fun s a t => t.setVpart rt (s.memRead a (2 ^ scale)) (simdAccess_le_128 h),
    PlainUpdate.id.writeV rt (fun _ _ => rfl), fun _ => rfl⟩

/-- Every load and store on SP is such a tail: no write-back check stops it, and its access writes memory or one
register. -/
theorem ldstMeaning_sp_isPlainLdst (op : LdstOp) (form : AddrForm) (rt : RegIdx) :
    IsPlainLdst form 31#5 (fun s => ldstMeaning form 31#5 rt s op) := by
  cases op with
  | strb | strh | strW | strX => exact storeGpr_sp_isPlainLdst _ form rt (by decide)
  | ldrb | ldrh | ldrW | ldrX => exact loadGpr_sp_isPlainLdst _ form rt (by decide)
  | strSimdB | strSimdH | strSimdS | strSimdD | strSimdQ => exact storeSimd_isPlainLdst _ form 31#5 rt (by decide)
  | ldrSimdB | ldrSimdH | ldrSimdS | ldrSimdD | ldrSimdQ => exact loadSimd_isPlainLdst _ form 31#5 rt (by decide)

/-- On a misaligned SP the test of R78 is its parameter. -/
theorem spMisaligned_sp {s : State} (h : s.sp.toNat % 16 ≠ 0) : spMisaligned 31#5 s = Config.spAlignCheck := by
  have hlow : s.sp.extractLsb' 0 4 ≠ 0#4 := fun hz => h (by simpa using congrArg BitVec.toNat hz)
  simp [spMisaligned, hlow]

theorem ldstStep_of_misaligned {scale : Nat} {form : AddrForm} {rn : RegIdx} {access : Word → State → State}
    {s : State} (h : spMisaligned rn s = true) : ldstStep scale form rn access s = raise .spAlign s := if_pos h

/-- Past the alignment test a load or store answers a next state with the error slot as before and pc moved on. -/
theorem IsPlainLdst.completes {form : AddrForm} {rn : RegIdx} {m : State → Result} (hm : IsPlainLdst form rn m)
    {s : State} (h : spMisaligned rn s = false) : ∃ t, m s = .next t ∧ t.err = s.err ∧ t.pc = s.pc + 4#64 := by
  obtain ⟨scale, access, hu, hstep⟩ := hm
  have hback := hu.writeBack scale form rn
  refine ⟨_, (hstep s).trans (if_neg (by rw [h]; exact Bool.false_ne_true)), hback.err s, ?_⟩
  exact congrArg (· + 4#64) (hback.pc s)

/-- Settles O53: the alignment test is the only check that can stop a load or store on SP. -/
theorem misalignedSpFaults : Obligations.MisalignedSpFaults := by
  intro op form rt s hsp
  have hcheck := spMisaligned_sp hsp
  have hplain := ldstMeaning_sp_isPlainLdst op form rt
  rw [exec_ldstInstr]
  split
  · next hon =>
    obtain ⟨scale, access, -, hstep⟩ := hplain
    exact (hstep s).trans (ldstStep_of_misaligned (hcheck.trans hon))
  · next hoff =>
    obtain ⟨t, ht, herr, hpc⟩ := hplain.completes (hcheck.trans (Bool.eq_false_iff.mpr hoff))
    exact ⟨t, ht, herr, hpc.trans (wordPlus_natCast s.pc 4).symm⟩

end Sys2Proof.Machine
end

section
/-! SUPPORT and PROOFS. The decoder and the encoder are inverse to each other (spec/30_encoding.md R111 to R130),
the class patterns are disjoint (R114), and the opcode table names the same instructions as the decoder (R141).
Both round trips are those of the class values, which the selection inside a class does not disturb. -/

namespace Sys2Proof

/-! ## Masks, and words as rows of fields -/

/-- What it is to fit a row of the class table or of the opcode table, at every width, so that it can be asked of
one field at a time. -/
def fitsMask {n : Nat} (w mask pattern : BitVec n) : Bool := w &&& mask == pattern

theorem ClassRow.fits_eq_fitsMask (r : ClassRow) (w : InstrWord) : r.fits w = fitsMask w r.mask r.pattern := rfl

theorem OpcodeRow.fits_eq_fitsMask (r : OpcodeRow) (w : InstrWord) : r.fits w = fitsMask w r.mask r.pattern := rfl

theorem fitsMask_iff {n : Nat} {w m p : BitVec n} : fitsMask w m p = true ↔ w &&& m = p := beq_iff_eq

theorem fitsMask_zero {n : Nat} (x : BitVec n) {m : BitVec n} (hm : m = 0#n) : fitsMask x m 0#n = true := by
  rw [fitsMask_iff, hm, BitVec.and_zero]

theorem fitsMask_allOnes {n : Nat} (x : BitVec n) {m : BitVec n} (hm : m = BitVec.allOnes n) :
    fitsMask x m x = true := by
  rw [fitsMask_iff, hm, BitVec.and_allOnes]

/-- A field the mask covers is the pattern's field. -/
theorem field_eq_of_fitsMask {w m p : InstrWord} (h : fitsMask w m p = true) {lo len : Nat}
    (hm : field lo len m = BitVec.allOnes len) : field lo len w = field lo len p := by
  have hand : field lo len (w &&& m) = field lo len w &&& field lo len m := BitVec.extractLsb'_and
  rw [← fitsMask_iff.mp h, hand, hm, BitVec.and_allOnes]

theorem append_eq_iff {a b : Nat} (x : BitVec a) (y : BitVec b) (v : BitVec (a + b)) :
    x ++ y = v ↔ x = v.extractLsb' b a ∧ y = v.extractLsb' 0 b := by
  constructor
  · rintro rfl
    exact ⟨BitVec.extractLsb'_append_eq_left.symm, BitVec.extractLsb'_append_eq_right.symm⟩
  · rintro ⟨rfl, rfl⟩
    rw [BitVec.extractLsb'_append_extractLsb'_eq_extractLsb' (Nat.zero_add b).symm, BitVec.extractLsb'_eq_self]

theorem fitsMask_append {a b : Nat} (x : BitVec a) (y : BitVec b) (m p : BitVec (a + b)) :
    fitsMask (x ++ y) m p = true ↔
      fitsMask x (m.extractLsb' b a) (p.extractLsb' b a) = true ∧
      fitsMask y (m.extractLsb' 0 b) (p.extractLsb' 0 b) = true := by
  have hm : m = m.extractLsb' b a ++ m.extractLsb' 0 b := ((append_eq_iff _ _ m).mpr ⟨rfl, rfl⟩).symm
  simp only [fitsMask_iff]
  conv_lhs => rw [hm, BitVec.and_append, append_eq_iff]

/-- `x` is the field of `w` from bit `lo` upwards. -/
def PlacedAt {n : Nat} (w : InstrWord) (lo : Nat) (x : BitVec n) : Prop := field lo n w = x

theorem placedAt_zero_iff (w x : InstrWord) : PlacedAt w 0 x ↔ w = x := by
  rw [PlacedAt, field, BitVec.extractLsb'_eq_self]

theorem placedAt_append {a b : Nat} (w : InstrWord) (lo : Nat) (x : BitVec a) (y : BitVec b) :
    PlacedAt w lo (x ++ y) ↔ PlacedAt w (lo + b) x ∧ PlacedAt w lo y := by
  have hsplit : field lo (a + b) w = field (lo + b) a w ++ field lo b w :=
    (BitVec.extractLsb'_append_extractLsb'_eq_extractLsb' rfl).symm
  rw [PlacedAt, PlacedAt, PlacedAt, hsplit, append_eq_iff, BitVec.extractLsb'_append_eq_left,
    BitVec.extractLsb'_append_eq_right]

/-! ## The class table (R113, R114) -/

/-- Some bit that both rows fix has a different value in each. -/
def ClassRow.Conflict (r t : ClassRow) : Prop :=
  ∃ k < 32, r.mask.getLsbD k = true ∧ t.mask.getLsbD k = true ∧ r.pattern.getLsbD k ≠ t.pattern.getLsbD k

/-- At most one of two rows fits `w`. -/
def ClassRow.Apart (w : InstrWord) (r t : ClassRow) : Prop := ¬ (r.fits w = true ∧ t.fits w = true)

theorem ClassRow.Apart.symm {w : InstrWord} {r t : ClassRow} (h : r.Apart w t) : t.Apart w r :=
  fun hboth => h hboth.symm

theorem ClassRow.getLsbD_of_fits {r : ClassRow} {w : InstrWord} (h : r.fits w = true) {k : Nat}
    (hk : r.mask.getLsbD k = true) : w.getLsbD k = r.pattern.getLsbD k := by
  rw [← fitsMask_iff.mp h, BitVec.getLsbD_and, hk, Bool.and_true]

theorem ClassRow.Conflict.apart {r t : ClassRow} (h : r.Conflict t) (w : InstrWord) : r.Apart w t := by
  obtain ⟨k, -, hr, ht, hne⟩ := h
  rintro ⟨hfr, hft⟩
  exact hne ((getLsbD_of_fits hfr hr).symm.trans (getLsbD_of_fits hft ht))

theorem classTable_pairwise_conflict : classTable.Pairwise ClassRow.Conflict := by
  unfold ClassRow.Conflict
  decide

theorem classTable_pairwise_apart (w : InstrWord) : classTable.Pairwise (ClassRow.Apart w) :=
  classTable_pairwise_conflict.imp (fun h => h.apart w)

theorem tag_ne_unsupported_of_mem {r : ClassRow} (h : r ∈ classTable) : r.tag ≠ .unsupported := by
  have hall : ∀ r ∈ classTable, r.tag ≠ .unsupported := by decide
  exact hall r h

theorem findClass_of_fits_none {l : List ClassRow} {w : InstrWord} (h : ∀ r ∈ l, r.fits w = false) :
    findClass l w = .unsupported := by
  induction l with
  | nil => rfl
  | cons r rest ih =>
    obtain ⟨hr, hrest⟩ := List.forall_mem_cons.mp h
    rw [findClass, if_neg (by rw [hr]; exact Bool.false_ne_true), ih hrest]

/-- Where the rows are apart, the first row that fits is the only one. -/
theorem findClass_of_fits {l : List ClassRow} {w : InstrWord} (hl : l.Pairwise (ClassRow.Apart w)) {r : ClassRow}
    (hr : r ∈ l) (hfit : r.fits w = true) : findClass l w = r.tag := by
  induction hl with
  | nil => cases hr
  | @cons t rest hapart _ ih =>
    rw [findClass]
    obtain rfl | hrest := List.mem_cons.mp hr
    · rw [if_pos hfit]
    · rw [if_neg (fun ht => hapart r hrest ⟨ht, hfit⟩), ih hrest]

theorem findClass_perm {l l' : List ClassRow} (hp : l.Perm l') {w : InstrWord} (hl' : l'.Pairwise (ClassRow.Apart w)) :
    findClass l w = findClass l' w := by
  have hl : l.Pairwise (ClassRow.Apart w) := hp.symm.pairwise hl' ClassRow.Apart.symm
  by_cases h : ∃ r ∈ l, r.fits w = true
  · obtain ⟨r, hr, hfit⟩ := h
    rw [findClass_of_fits hl hr hfit, findClass_of_fits hl' (hp.mem_iff.mp hr) hfit]
  · have hnone : ∀ r ∈ l, r.fits w = false := fun r hr => Bool.eq_false_iff.mpr (fun hfit => h ⟨r, hr, hfit⟩)
    rw [findClass_of_fits_none hnone, findClass_of_fits_none (fun r hr => hnone r (hp.mem_iff.mpr hr))]

theorem decodeClass_of_fits {r : ClassRow} (hr : r ∈ classTable) {w : InstrWord} (h : r.fits w = true) :
    decodeClass w = cutFields w r.tag := by
  rw [decodeClass, findClass_of_fits (classTable_pairwise_apart w) hr h]

theorem decodeClass_of_fits_none {w : InstrWord} (h : ∀ r ∈ classTable, r.fits w = false) :
    decodeClass w = .unsupported w := by
  rw [decodeClass, findClass_of_fits_none h, cutFields]

/-! ## Class values and their words (R112, R116 to R130) -/

/-- The row of the class table a class value stands under. -/
def InstrClass.tag : InstrClass → ClassTag
  | .advSimdThreeSame .. => .advSimdThreeSame
  | .cryptoAes .. => .cryptoAes
  | .uncondBranchImm .. => .uncondBranchImm
  | .condBranchImm .. => .condBranchImm
  | .compareBranch .. => .compareBranch
  | .uncondBranchReg .. => .uncondBranchReg
  | .hints .. => .hints
  | .ldstRegUnsignedImm .. => .ldstRegUnsignedImm
  | .ldstRegImmPost .. => .ldstRegImmPost
  | .ldstRegImmPre .. => .ldstRegImmPre
  | .addSubImm .. => .addSubImm
  | .moveWide .. => .moveWide
  | .pcRel .. => .pcRel
  | .addSubShifted .. => .addSubShifted
  | .logicalShifted .. => .logicalShifted
  | .unsupported _ => .unsupported

@[simp] theorem tag_cutFields (w : InstrWord) (t : ClassTag) : (cutFields w t).tag = t := by cases t <;> rfl

theorem decodeClass_eq_unsupported_iff (w : InstrWord) :
    decodeClass w = .unsupported w ↔ ∀ r ∈ classTable, r.fits w = false := by
  refine ⟨fun h r hr => Bool.eq_false_iff.mpr (fun hfit => ?_), decodeClass_of_fits_none⟩
  rw [decodeClass_of_fits hr hfit] at h
  exact tag_ne_unsupported_of_mem hr ((tag_cutFields w r.tag).symm.trans (congrArg InstrClass.tag h))

/-- The fields of a word written from a class value stand where the class's format cuts them out. -/
theorem cutFields_encodeClass (c : InstrClass) : cutFields (encodeClass c) c.tag = c := by
  cases c <;> simp only [InstrClass.tag, cutFields, encodeClass, field] <;>
    simp (disch := decide) only [BitVec.extractLsb'_append_eq_of_le, BitVec.extractLsb'_append_eq_of_add_le,
      Nat.reduceSub, BitVec.extractLsb'_eq_self]

/-- The constants of each format are those of its row's pattern. -/
theorem exists_row_fits_encodeClass {c : InstrClass} (hc : c.tag ≠ .unsupported) :
    ∃ r ∈ classTable, r.tag = c.tag ∧ r.fits (encodeClass c) = true := by
  cases c <;> simp only [InstrClass.tag, ne_eq, not_true_eq_false] at hc <;>
    simp only [classTable, List.exists_mem_cons_iff, InstrClass.tag, reduceCtorEq, false_and, false_or, true_and] <;>
    left <;> simp only [ClassRow.fits_eq_fitsMask, encodeClass, fitsMask_append] <;> simp [fitsMask]

theorem decodeClass_encodeClass {c : InstrClass} (hc : c.tag ≠ .unsupported) : decodeClass (encodeClass c) = c := by
  obtain ⟨r, hr, htag, hfit⟩ := exists_row_fits_encodeClass hc
  rw [decodeClass_of_fits hr hfit, htag, cutFields_encodeClass]

/-- Every bit of a word that fits a row is one of the row's constants or lies in one of its class's fields. -/
theorem encodeClass_cutFields {r : ClassRow} (hr : r ∈ classTable) {w : InstrWord} (h : r.fits w = true) :
    encodeClass (cutFields w r.tag) = w := by
  rw [ClassRow.fits_eq_fitsMask] at h
  rw [eq_comm, ← placedAt_zero_iff]
  simp only [classTable, List.mem_cons, List.not_mem_nil, or_false] at hr
  rcases hr with rfl | rfl | rfl | rfl | rfl | rfl | rfl | rfl | rfl | rfl | rfl | rfl | rfl | rfl | rfl <;>
    simp only [encodeClass, cutFields, placedAt_append] <;>
    simp (disch := decide) [PlacedAt, field_eq_of_fitsMask h] <;> decide

theorem encodeClass_decodeClass (w : InstrWord) : encodeClass (decodeClass w) = w := by
  by_cases h : ∃ r ∈ classTable, r.fits w = true
  · obtain ⟨r, hr, hfit⟩ := h
    rw [decodeClass_of_fits hr hfit, encodeClass_cutFields hr hfit]
  · rw [decodeClass_of_fits_none (fun r hr => Bool.eq_false_iff.mpr (fun hfit => h ⟨r, hr, hfit⟩)), encodeClass]

/-! ## Selection inside a class (R133, R135) -/

theorem selectInstr_toClass (i : Instr) : selectInstr i.toClass = .instr i := by cases i <;> rfl

theorem Instr.tag_toClass_ne_unsupported (i : Instr) : i.toClass.tag ≠ .unsupported := by
  cases i <;> exact ClassTag.noConfusion

section
variable {i : Instr} {sf op sBit sh q u v n : BitVec 1} {size shift : BitVec 2} {opcode op2 op4 : BitVec 5}
  {op3 imm6 : BitVec 6} {rm rn rd rt : RegIdx}

theorem bit_cases : ∀ b : BitVec 1, b = 0#1 ∨ b = 1#1 := by decide

theorem two_bit_cases : ∀ b : BitVec 2, b = 0#2 ∨ b = 1#2 ∨ b = 2#2 ∨ b = 3#2 := by decide

theorem toClass_of_selectThreeSame (h : selectThreeSame q u size rm opcode rn rd = .instr i) :
    i.toClass = .advSimdThreeSame q u size rm opcode rn rd := by
  unfold selectThreeSame at h
  split at h
  · next hadd => obtain ⟨rfl, rfl⟩ := hadd; cases h; rfl
  · split at h
    · next hlogical =>
      subst hlogical
      obtain rfl | rfl := bit_cases u <;> obtain rfl | rfl | rfl | rfl := two_bit_cases size <;> cases h <;> rfl
    · cases h

theorem toClass_of_selectAes (h : selectAes size opcode rn rd = .instr i) :
    i.toClass = .cryptoAes size opcode rn rd := by
  unfold selectAes at h
  split_ifs at h <;> cases h <;> subst_vars <;> rfl

theorem toClass_of_selectBranchReg {opc : BitVec 4} (h : selectBranchReg opc op2 op3 rn op4 = .instr i) :
    i.toClass = .uncondBranchReg opc op2 op3 rn op4 := by
  unfold selectBranchReg at h
  split at h
  · next hfixed =>
    obtain ⟨rfl, rfl, rfl⟩ := hfixed
    split_ifs at h <;> cases h <;> subst_vars <;> rfl
  · cases h

/-- The fields `size`, `V` and `opc` of a load or store operation (spec/43_loads_and_stores.md R230). -/
def LdstOp.opFields : LdstOp → BitVec 2 × BitVec 1 × BitVec 2
  | .strb => (0, 0, 0) | .strh => (1, 0, 0) | .strW => (2, 0, 0) | .strX => (3, 0, 0)
  | .ldrb => (0, 0, 1) | .ldrh => (1, 0, 1) | .ldrW => (2, 0, 1) | .ldrX => (3, 0, 1)
  | .strSimdB => (0, 1, 0) | .strSimdH => (1, 1, 0) | .strSimdS => (2, 1, 0) | .strSimdD => (3, 1, 0)
  | .ldrSimdB => (0, 1, 1) | .ldrSimdH => (1, 1, 1) | .ldrSimdS => (2, 1, 1) | .ldrSimdD => (3, 1, 1)
  | .strSimdQ => (0, 1, 2) | .ldrSimdQ => (0, 1, 3)

/-- The class value of a load or store, its class fixed by the addressing form. -/
def ldstClass (rn rt : RegIdx) : BitVec 2 × BitVec 1 × BitVec 2 → AddrForm → InstrClass
  | (size, v, opc), .unsignedOffset imm12 => .ldstRegUnsignedImm size v opc imm12 rn rt
  | (size, v, opc), .postIndex imm9 => .ldstRegImmPost size v opc imm9 rn rt
  | (size, v, opc), .preIndex imm9 => .ldstRegImmPre size v opc imm9 rn rt

theorem toClass_ldstInstr (op : LdstOp) (form : AddrForm) (rn rt : RegIdx) :
    (ldstInstr rn rt op form).toClass = ldstClass rn rt op.opFields form := by
  cases op <;> cases form <;> rfl

theorem opFields_of_selectLdstOp {opc : BitVec 2} {op : LdstOp} (h : selectLdstOp size v opc = .inr op) :
    op.opFields = (size, v, opc) := by
  have hall : ∀ (size : BitVec 2) (v : BitVec 1) (opc : BitVec 2),
      ∀ op ∈ (selectLdstOp size v opc).getRight?, op.opFields = (size, v, opc) := by decide
  exact hall size v opc op (by rw [h]; rfl)

theorem toClass_of_selectLdst {opc : BitVec 2} {form : AddrForm} (h : selectLdst size v opc form rn rt = .instr i) :
    i.toClass = ldstClass rn rt (size, v, opc) form := by
  unfold selectLdst at h
  split at h
  · cases h
  · next hop => cases h; rw [toClass_ldstInstr, opFields_of_selectLdstOp hop]

theorem toClass_of_selectAddSubImm {imm12 : BitVec 12} (h : selectAddSubImm sf op sBit sh imm12 rn rd = .instr i) :
    i.toClass = .addSubImm sf op sBit sh imm12 rn rd := by
  obtain rfl | rfl := bit_cases op <;> obtain rfl | rfl := bit_cases sBit <;> cases h <;> rfl

theorem toClass_of_selectMoveWide {opc hw : BitVec 2} {imm16 : BitVec 16}
    (h : selectMoveWide sf opc hw imm16 rd = .instr i) : i.toClass = .moveWide sf opc hw imm16 rd := by
  obtain rfl | rfl | rfl | rfl := two_bit_cases opc <;> cases h <;> rfl

theorem toClass_of_selectAddSubShifted (h : selectAddSubShifted sf op sBit shift rm imm6 rn rd = .instr i) :
    i.toClass = .addSubShifted sf op sBit shift rm imm6 rn rd := by
  obtain rfl | rfl := bit_cases op <;> obtain rfl | rfl := bit_cases sBit <;> cases h <;> rfl

theorem toClass_of_selectLogicalShifted {opc : BitVec 2}
    (h : selectLogicalShifted sf opc shift n rm imm6 rn rd = .instr i) :
    i.toClass = .logicalShifted sf opc shift n rm imm6 rn rd := by
  obtain rfl | rfl | rfl | rfl := two_bit_cases opc <;> obtain rfl | rfl := bit_cases n <;> cases h <;> rfl

end

/-- Selection loses nothing: the instruction's fixed and operand fields are those of the class value. -/
theorem toClass_of_selectInstr {c : InstrClass} {i : Instr} (h : selectInstr c = .instr i) : i.toClass = c := by
  cases c with
  | advSimdThreeSame => exact toClass_of_selectThreeSame h
  | cryptoAes => exact toClass_of_selectAes h
  | uncondBranchImm op => obtain rfl | rfl := bit_cases op <;> cases h <;> rfl
  | condBranchImm o1 imm19 o0 =>
    obtain rfl | rfl := bit_cases o1 <;> obtain rfl | rfl := bit_cases o0 <;> cases h
    rfl
  | compareBranch sf op => obtain rfl | rfl := bit_cases op <;> cases h <;> rfl
  | uncondBranchReg => exact toClass_of_selectBranchReg h
  | hints crm op2 =>
    simp only [selectInstr] at h
    split at h
    · next hnop => obtain ⟨rfl, rfl⟩ := hnop; cases h; rfl
    · cases h
  | ldstRegUnsignedImm | ldstRegImmPost | ldstRegImmPre => exact toClass_of_selectLdst h
  | addSubImm => exact toClass_of_selectAddSubImm h
  | moveWide => exact toClass_of_selectMoveWide h
  | pcRel op => obtain rfl | rfl := bit_cases op <;> cases h <;> rfl
  | addSubShifted => exact toClass_of_selectAddSubShifted h
  | logicalShifted => exact toClass_of_selectLogicalShifted h
  | unsupported => cases h

theorem selectInstr_eq_instr_iff {c : InstrClass} {i : Instr} : selectInstr c = .instr i ↔ i.toClass = c :=
  ⟨toClass_of_selectInstr, fun h => h ▸ selectInstr_toClass i⟩

/-! ## The round trips -/

/-- Settles O1: the class value survives the word, and selects its instruction. -/
theorem decodeOfEncodeIsInstruction : Obligations.DecodeOfEncodeIsInstruction := by
  intro i
  rw [decode, encode, decodeClass_encodeClass i.tag_toClass_ne_unsupported, selectInstr_toClass]

/-- Settles O2: the instruction has the class value of the word, and the word is that value's. -/
theorem encodeOfDecodeIsWord : Obligations.EncodeOfDecodeIsWord := by
  intro w i h
  rw [encode, selectInstr_eq_instr_iff.mp h, encodeClass_decodeClass]

/-- Settles O3, from the conflicting bit of each two rows. -/
theorem classPatternsDisjoint : Obligations.ClassPatternsDisjoint :=
  ⟨rfl, classTable_pairwise_conflict, classTable_pairwise_apart,
    fun _ hp w => findClass_perm hp (classTable_pairwise_apart w), decodeClass_eq_unsupported_iff⟩

/-! ## The opcode table (R141) -/

/-- Whether the selection reads `size`: in the three-same class it does for the logical instructions, and for ADD
(vector) `size` is an operand (spec/40_simd_three_same.md R153). -/
def InstrClass.sizeSelects : InstrClass → Bool
  | .advSimdThreeSame _ _ _ _ opcode _ _ => opcode != 0b10000#5
  | _ => true

/-- A class value with the fields that are operands, not read by the selection, at 0. -/
def InstrClass.selector : InstrClass → (sizeSelects : Bool) → InstrClass
  | .advSimdThreeSame _ u size _ opcode _ _, true => .advSimdThreeSame 0#_ u size 0#_ opcode 0#_ 0#_
  | .advSimdThreeSame _ u _ _ opcode _ _, false => .advSimdThreeSame 0#_ u 0#_ 0#_ opcode 0#_ 0#_
  | .cryptoAes size opcode _ _, _ => .cryptoAes size opcode 0#_ 0#_
  | .uncondBranchImm op _, _ => .uncondBranchImm op 0#_
  | .condBranchImm o1 _ o0 _, _ => .condBranchImm o1 0#_ o0 0#_
  | .compareBranch _ op _ _, _ => .compareBranch 0#_ op 0#_ 0#_
  | .uncondBranchReg opc op2 op3 _ op4, _ => .uncondBranchReg opc op2 op3 0#_ op4
  | .hints crm op2, _ => .hints crm op2
  | .ldstRegUnsignedImm size v opc _ _ _, _ => .ldstRegUnsignedImm size v opc 0#_ 0#_ 0#_
  | .ldstRegImmPost size v opc _ _ _, _ => .ldstRegImmPost size v opc 0#_ 0#_ 0#_
  | .ldstRegImmPre size v opc _ _ _, _ => .ldstRegImmPre size v opc 0#_ 0#_ 0#_
  | .addSubImm _ op sBit _ _ _ _, _ => .addSubImm 0#_ op sBit 0#_ 0#_ 0#_ 0#_
  | .moveWide _ opc _ _ _, _ => .moveWide 0#_ opc 0#_ 0#_ 0#_
  | .pcRel op _ _ _, _ => .pcRel op 0#_ 0#_ 0#_
  | .addSubShifted _ op sBit _ _ _ _ _, _ => .addSubShifted 0#_ op sBit 0#_ 0#_ 0#_ 0#_ 0#_
  | .logicalShifted _ opc _ n _ _ _ _, _ => .logicalShifted 0#_ opc 0#_ n 0#_ 0#_ 0#_ 0#_
  | .unsupported word, _ => .unsupported word

/-- The bits of a class that are constants of its format or read by the selection. -/
def selectorMask (sizeSelects : Bool) : ClassTag → InstrWord
  | .advSimdThreeSame => cond sizeSelects 0xBFE0FC00#32 0xBF20FC00#32
  | .cryptoAes => 0xFFFFFC00#32
  | .uncondBranchImm => 0xFC000000#32
  | .condBranchImm => 0xFF000010#32
  | .compareBranch => 0x7F000000#32
  | .uncondBranchReg => 0xFFFFFC1F#32
  | .hints => 0xFFFFFFFF#32
  | .ldstRegUnsignedImm => 0xFFC00000#32
  | .ldstRegImmPost | .ldstRegImmPre => 0xFFE00C00#32
  | .addSubImm | .moveWide => 0x7F800000#32
  | .pcRel => 0x9F000000#32
  | .addSubShifted | .logicalShifted => 0x7F200000#32
  | .unsupported => 0xFFFFFFFF#32

theorem opcodeRow_mask (i : Instr) : i.opcodeRow.mask = selectorMask i.toClass.sizeSelects i.toClass.tag := by
  cases i <;> rfl

theorem opcodeRow_pattern (i : Instr) :
    i.opcodeRow.pattern = encodeClass (i.toClass.selector i.toClass.sizeSelects) := by
  cases i <;> rfl

theorem InstrClass.tag_selector (b : Bool) (c : InstrClass) : (c.selector b).tag = c.tag := by
  cases b <;> cases c <;> rfl

theorem InstrClass.sizeSelects_selector (b : Bool) (c : InstrClass) : (c.selector b).sizeSelects = c.sizeSelects := by
  cases b <;> cases c <;> rfl

/-- The mask keeps of a class value's word the constants and the selecting fields. -/
theorem encodeClass_and_selectorMask (b : Bool) (c : InstrClass) :
    encodeClass c &&& selectorMask b c.tag = encodeClass (c.selector b) := by
  rw [← fitsMask_iff]
  cases b <;> cases c <;>
    simp (disch := decide) only [InstrClass.tag, InstrClass.selector, selectorMask, encodeClass, fitsMask_append,
      BitVec.extractLsb'_append_eq_left, BitVec.extractLsb'_append_eq_right, cond_true, cond_false, fitsMask_zero,
      fitsMask_allOnes, and_self]

theorem selectorMask_and_rowMask {r : ClassRow} (hr : r ∈ classTable) (b : Bool) :
    selectorMask b r.tag &&& r.mask = r.mask := by
  have hall : ∀ b, ∀ r ∈ classTable, selectorMask b r.tag &&& r.mask = r.mask := by decide
  exact hall b r hr

/-- A word that agrees with a class value's on the mask has its class and its selecting fields. -/
theorem selector_decodeClass {b : Bool} {c : InstrClass} (hc : c.tag ≠ .unsupported) {w : InstrWord}
    (h : w &&& selectorMask b c.tag = encodeClass (c.selector b)) : (decodeClass w).selector b = c.selector b := by
  have hsel : (c.selector b).tag ≠ .unsupported := by rwa [c.tag_selector b]
  obtain ⟨r, hr, htag, hfit⟩ := exists_row_fits_encodeClass hsel
  rw [c.tag_selector b] at htag
  have hw : r.fits w = true := by
    rw [ClassRow.fits_eq_fitsMask, fitsMask_iff] at hfit ⊢
    rw [← hfit, ← h, BitVec.and_assoc, ← htag, selectorMask_and_rowMask hr]
  have hwtag : (decodeClass w).tag = c.tag := by rw [decodeClass_of_fits hr hw, tag_cutFields, htag]
  have hword : encodeClass ((decodeClass w).selector b) = encodeClass (c.selector b) := by
    rw [← encodeClass_and_selectorMask, encodeClass_decodeClass, hwtag, h]
  have hwsel : ((decodeClass w).selector b).tag ≠ .unsupported := by rwa [InstrClass.tag_selector, hwtag]
  rw [← decodeClass_encodeClass hwsel, hword, decodeClass_encodeClass hsel]

/-- The row of the opcode table that a decoded word stands under. -/
def Decoded.row? : Decoded → Option OpcodeRow
  | .instr i => some i.opcodeRow
  | .reject _ => none

theorem Decoded.row?_eq_some_iff {d : Decoded} {row : OpcodeRow} :
    d.row? = some row ↔ ∃ i, d = .instr i ∧ i.opcodeRow = row := by
  cases d <;> simp [Decoded.row?]

/-- The addressing form with its offset field at 0. -/
def AddrForm.zeroed : AddrForm → AddrForm
  | .unsignedOffset _ => .unsignedOffset 0#12
  | .postIndex _ => .postIndex 0#9
  | .preIndex _ => .preIndex 0#9

theorem row?_selectLdst (size : BitVec 2) (v : BitVec 1) (opc : BitVec 2) (form : AddrForm) (rn rt : RegIdx) :
    (selectLdst size v opc form.zeroed 0#5 0#5).row? = (selectLdst size v opc form rn rt).row? := by
  unfold selectLdst
  rcases selectLdstOp size v opc with site | op
  · rfl
  · cases op <;> cases form <;> rfl

/-- The operand fields do not matter to the selection of a row. -/
theorem row?_selectInstr_selector (c : InstrClass) :
    (selectInstr (c.selector c.sizeSelects)).row? = (selectInstr c).row? := by
  cases c with
  | advSimdThreeSame q u size rm opcode rn rd =>
    by_cases hadd : opcode = 0b10000#5
    · subst hadd
      obtain rfl | rfl := bit_cases u <;> rfl
    · rw [InstrClass.sizeSelects, bne_iff_ne.mpr hadd]
      simp only [InstrClass.selector, selectInstr, selectThreeSame]
      split_ifs <;> rfl
  | cryptoAes => simp only [InstrClass.selector, selectInstr, selectAes]; split_ifs <;> rfl
  | uncondBranchReg => simp only [InstrClass.selector, selectInstr, selectBranchReg]; split_ifs <;> rfl
  | ldstRegUnsignedImm size v opc imm12 rn rt => exact row?_selectLdst size v opc (.unsignedOffset imm12) rn rt
  | ldstRegImmPost size v opc imm9 rn rt => exact row?_selectLdst size v opc (.postIndex imm9) rn rt
  | ldstRegImmPre size v opc imm9 rn rt => exact row?_selectLdst size v opc (.preIndex imm9) rn rt
  | moveWide => simp only [InstrClass.selector, selectInstr, selectMoveWide]; split_ifs <;> rfl
  | addSubImm => simp only [InstrClass.selector, selectInstr, selectAddSubImm]; split_ifs <;> rfl
  | addSubShifted => simp only [InstrClass.selector, selectInstr, selectAddSubShifted]; split_ifs <;> rfl
  | logicalShifted => simp only [InstrClass.selector, selectInstr, selectLogicalShifted]; split_ifs <;> rfl
  | uncondBranchImm | condBranchImm | compareBranch | pcRel =>
    simp only [InstrClass.selector, selectInstr]
    split_ifs <;> rfl
  | hints | unsupported => rfl

theorem opcodeRow_fits_encode (i : Instr) : i.opcodeRow.fits (encode i) = true := by
  rw [OpcodeRow.fits_eq_fitsMask, fitsMask_iff, opcodeRow_mask, opcodeRow_pattern, encode,
    encodeClass_and_selectorMask]

theorem row?_decode_of_fits {i : Instr} {w : InstrWord} (h : i.opcodeRow.fits w = true) :
    (decode w).row? = some i.opcodeRow := by
  rw [OpcodeRow.fits_eq_fitsMask, fitsMask_iff, opcodeRow_mask, opcodeRow_pattern] at h
  have hsel := selector_decodeClass i.tag_toClass_ne_unsupported h
  have hsize : (decodeClass w).sizeSelects = i.toClass.sizeSelects := by
    rw [← InstrClass.sizeSelects_selector, hsel, InstrClass.sizeSelects_selector]
  rw [decode, ← row?_selectInstr_selector, hsize, hsel, row?_selectInstr_selector, selectInstr_toClass, Decoded.row?]

/-- Settles O4: a decoded word is its instruction's encoding, which fits the row; and a word that fits a row has the
row's selecting fields, so that the decoder selects that row. -/
theorem opcodeTableAgreesWithDecoder : Obligations.OpcodeTableAgreesWithDecoder := by
  constructor
  · intro w i h
    rw [← encodeOfDecodeIsWord w i h]
    exact opcodeRow_fits_encode i
  · intro w i h
    exact Decoded.row?_eq_some_iff.mp (row?_decode_of_fits h)

/-- Settles O5, by decoding the nine words. -/
theorem decodesWordsOfTheSpec : Obligations.DecodesWordsOfTheSpec := by
  unfold Obligations.DecodesWordsOfTheSpec
  decide

end Sys2Proof
end

section
/-! SUPPORT and PROOFS. The three-same vector instructions (spec/40_simd_three_same.md R150 to R166), what they and
the AES instructions leave unchanged, and the reserved field combinations of every class
(spec/60_exceptions.md R305). -/

namespace Sys2Proof.Machine

/-! ## The next instruction, in the words of the statements -/

theorem next_advance (s : State) : (.next s.advance : Result) = .next { s with pc := wordPlus s.pc 4 } := by
  have hpc : wordPlus s.pc 4 = s.pc + 4#64 := wordPlus_natCast s.pc 4
  rw [hpc]; rfl

/-! ## Lane-wise addition (R150 to R152, R156) -/

theorem esizeOf_eq (size : BitVec 2) : esizeOf size = 8 * 2 ^ size.toNat := Nat.shiftLeft_eq 8 size.toNat

theorem elem_vectorAdd {q : BitVec 1} {size : BitVec 2} (a b : VWord) {e : Nat}
    (he : e < vdatasize q / esizeOf size) :
    elem (esizeOf size) (vectorAdd q size a b) e = elem (esizeOf size) a e + elem (esizeOf size) b e :=
  elem_zext_fromLanes _ he (lanes_le_128 q size)

theorem toNat_vectorAdd_lt (q : BitVec 1) (size : BitVec 2) (a b : VWord) :
    (vectorAdd q size a b).toNat < 2 ^ vdatasize q := by
  rw [vectorAdd, toNat_zext]
  exact (BitVec.isLt _).trans_le (Nat.pow_le_pow_right Nat.two_pos (Nat.mul_div_le _ _))

theorem addVectorReserved_iff {q : BitVec 1} {size : BitVec 2} :
    addVectorReserved q size = true ↔ size = 3#2 ∧ q = 0#1 := by
  simp [addVectorReserved]

theorem execAddVector_of_reserved {q : BitVec 1} {size : BitVec 2} (h : addVectorReserved q size = true)
    (rm rn rd : RegIdx) (s : State) : execAddVector q size rm rn rd s = raise .addVectorReserved s := if_pos h

theorem execAddVector_of_not_reserved {q : BitVec 1} {size : BitVec 2} (h : ¬ addVectorReserved q size = true)
    (rm rn rd : RegIdx) (s : State) :
    execAddVector q size rm rn rd s = .next (s.writeV rd (vectorAdd q size (s.readV rn) (s.readV rm))).advance :=
  if_neg h

/-- Settles O33: the sum of lanes is the reassembly of the wrapped sums, below `2^datasize`. -/
theorem vectorAddPerLane : Obligations.VectorAddPerLane := by
  intro q size rm rn rd s hok
  refine ⟨vectorAdd q size (s.readV rn) (s.readV rm), ?_, ?_, ?_⟩
  · have hnot : ¬ addVectorReserved q size = true := mt addVectorReserved_iff.mp hok
    exact (execAddVector_of_not_reserved hnot rm rn rd s).trans (next_advance _)
  · rw [← esizeOf_eq]
    intro e he
    rw [elem_vectorAdd _ _ he, BitVec.toNat_add]
  · rintro rfl
    exact toNat_vectorAdd_lt 0#1 size _ _

/-! ## Bit-by-bit instructions (R152, R155, R166) -/

theorem lt_vdatasize_iff {q : BitVec 1} {k : Nat} (hk : k < 128) : k < vdatasize q ↔ q = 1#1 ∨ k < 64 := by
  unfold vdatasize
  split
  · next hq => simp [hq, hk]
  · next hq => simp [hq]

/-- At every width, each bit of `f`'s result is `g` of the bits of its operands. -/
def ActsBitwise (f : {w : Nat} → BitVec w → BitVec w → BitVec w → BitVec w) (g : Bool → Bool → Bool → Bool) :
    Prop :=
  ∀ (w : Nat) (a b c : BitVec w) (k : Nat), k < w →
    (f a b c).getLsbD k = g (a.getLsbD k) (b.getLsbD k) (c.getLsbD k)

/-- Below the data size a part reads the bits of its register; above it the extended result is zero. -/
theorem ActsBitwise.bitwise_zext {f : {w : Nat} → BitVec w → BitVec w → BitVec w → BitVec w}
    {g : Bool → Bool → Bool → Bool} (h : ActsBitwise f g) (q : BitVec 1) (a b c : VWord) :
    bitwise q g (zext 128 (f (a.setWidth (vdatasize q)) (b.setWidth (vdatasize q)) (c.setWidth (vdatasize q)))
      (vdatasize_le_128 q)) a b c := by
  intro k hk
  rw [zext, BitVec.getLsbD_setWidth, decide_eq_true hk, Bool.true_and]
  by_cases hlow : k < vdatasize q
  · simp only [h _ _ _ _ k hlow, BitVec.getLsbD_setWidth, (lt_vdatasize_iff hk).mp hlow, hlow, decide_true,
      Bool.true_and]
  · rw [BitVec.getLsbD_of_ge _ k (Nat.le_of_not_lt hlow), decide_eq_false (mt (lt_vdatasize_iff hk).mpr hlow),
      Bool.false_and]

theorem vectorLogical_bitwise {f : {w : Nat} → BitVec w → BitVec w → BitVec w → BitVec w}
    {g : Bool → Bool → Bool → Bool} (h : ActsBitwise f g) (q : BitVec 1) (rm rn rd : RegIdx) (s : State) :
    ∃ r : VWord, vectorLogical f q rm rn rd s = .next { s.writeV rd r with pc := wordPlus s.pc 4 } ∧
      bitwise q g r (s.readV rn) (s.readV rm) (s.readV rd) :=
  ⟨_, next_advance _, h.bitwise_zext q (s.readV rn) (s.readV rm) (s.readV rd)⟩

/-- The insertion BSL, BIT and BIF are written with chooses one of two bits. -/
theorem xor_and_xor_eq_ite (x y c : Bool) : (x ^^ ((x ^^ y) && c)) = if c then y else x := by
  cases c with
  | false => rw [Bool.and_false, Bool.xor_false]; rfl
  | true => rw [Bool.and_true, ← Bool.xor_assoc, Bool.xor_self, Bool.false_xor]; rfl

/-! One lemma for each row of the truth table of R166: what BitVec does, bit by bit. -/

theorem actsBitwise_and : ActsBitwise (fun n m _ => n &&& m) (fun n m _ => n && m) :=
  fun _ _ _ _ _ _ => BitVec.getLsbD_and

theorem actsBitwise_bic : ActsBitwise (fun n m _ => n &&& ~~~m) (fun n m _ => n && !m) := by
  intro w n m d k hk; simp [hk]

theorem actsBitwise_orr : ActsBitwise (fun n m _ => n ||| m) (fun n m _ => n || m) :=
  fun _ _ _ _ _ _ => BitVec.getLsbD_or

theorem actsBitwise_orn : ActsBitwise (fun n m _ => n ||| ~~~m) (fun n m _ => n || !m) := by
  intro w n m d k hk; simp [hk]

theorem actsBitwise_eor : ActsBitwise (fun n m _ => n ^^^ m) (fun n m _ => n != m) :=
  fun _ _ _ _ _ _ => BitVec.getLsbD_xor

theorem actsBitwise_bsl : ActsBitwise (fun n m d => m ^^^ ((m ^^^ n) &&& d)) (fun n m d => if d then n else m) := by
  intro w n m d k hk; simp only [BitVec.getLsbD_xor, BitVec.getLsbD_and, xor_and_xor_eq_ite]

theorem actsBitwise_bit : ActsBitwise (fun n m d => d ^^^ ((d ^^^ n) &&& m)) (fun n m d => if m then n else d) := by
  intro w n m d k hk; simp only [BitVec.getLsbD_xor, BitVec.getLsbD_and, xor_and_xor_eq_ite]

theorem actsBitwise_bif :
    ActsBitwise (fun n m d => d ^^^ ((d ^^^ n) &&& ~~~m)) (fun n m d => if m then d else n) := by
  intro w n m d k hk
  simp only [BitVec.getLsbD_xor, BitVec.getLsbD_and, BitVec.getLsbD_not, hk, decide_true, Bool.true_and,
    xor_and_xor_eq_ite]
  cases m.getLsbD k <;> rfl

/-- Settles O34: each instruction acts bit by bit, at any width, as its row of the truth table says. -/
theorem vectorLogicalTruthTables : Obligations.VectorLogicalTruthTables := fun q rm rn rd s =>
  ⟨vectorLogical_bitwise actsBitwise_and q rm rn rd s, vectorLogical_bitwise actsBitwise_bic q rm rn rd s,
    vectorLogical_bitwise actsBitwise_orr q rm rn rd s, vectorLogical_bitwise actsBitwise_orn q rm rn rd s,
    vectorLogical_bitwise actsBitwise_eor q rm rn rd s, vectorLogical_bitwise actsBitwise_bsl q rm rn rd s,
    vectorLogical_bitwise actsBitwise_bit q rm rn rd s, vectorLogical_bitwise actsBitwise_bif q rm rn rd s⟩

/-! ## What the vector and AES instructions leave unchanged (R152, R154, R190) -/

/-- The instruction faulted, or wrote `V[d]` and moved on. -/
def FaultedOrWroteV (rd : RegIdx) (s t : State) : Prop :=
  (∃ site, t = s.faulted site) ∨ ∃ w, t = (s.writeV rd w).advance

namespace FaultedOrWroteV
variable {rd : RegIdx} {s t : State}

theorem wroteV {w : VWord} (h : (.next (s.writeV rd w).advance : Result) = .next t) : FaultedOrWroteV rd s t :=
  .inr ⟨w, (next_inj.mp h).symm⟩

theorem frame (h : FaultedOrWroteV rd s t) :
    keepsV s t [rd] ∧ t.x = s.x ∧ t.sp = s.sp ∧ t.flags = s.flags ∧ keepsMem s t ∧ keepsErr s t := by
  obtain ⟨site, rfl⟩ | ⟨w, rfl⟩ := h
  · exact ⟨fun r _ => State.readV_faulted .., rfl, rfl, rfl, fun a => State.readByte_faulted .., .inr rfl⟩
  · refine ⟨fun r hr => ?_, rfl, rfl, rfl, fun a => by simp, .inl rfl⟩
    have hne : r ≠ rd := by simpa using hr
    rw [State.readV_advance, State.readV_writeV_other s hne]

end FaultedOrWroteV

theorem execAddVector_writesV {q : BitVec 1} {size : BitVec 2} {rm rn rd : RegIdx} {s t : State}
    (h : execAddVector q size rm rn rd s = .next t) : FaultedOrWroteV rd s t := by
  by_cases hres : addVectorReserved q size = true
  · rw [execAddVector_of_reserved hres] at h
    exact .inl ⟨_, raise_next.mp h⟩
  · rw [execAddVector_of_not_reserved hres] at h
    exact .wroteV h

/-- Settles O54: ADD (vector) faults or writes `V[d]`, the twelve others write it. -/
theorem frameVectorAndAes : Obligations.FrameVectorAndAes := by
  intro q size rm rn rd s t h
  have hwrote : FaultedOrWroteV rd s t := by
    obtain h | h | h | h | h | h | h | h | h | h | h | h | h := h
    · exact execAddVector_writesV h
    all_goals exact .wroteV h
  exact hwrote.frame

/-! ## Reserved field combinations (R156, R233, R267, R280, R287) -/

/-- A site of kind Illegal sets the error slot to Illegal with its message, and nothing else (R303, R304). -/
theorem raise_of_illegal {site : FaultSite} (h : faultKind site = .illegal) (s : State) :
    raise site s = .next { s with err := .illegal (Config.msg site) } := by
  rw [raise, State.faulted, errOf, h]

theorem writebackConflict_self {r : RegIdx} (h : r ≠ 31#5) : writebackConflict r r = true := by
  simp [writebackConflict, h]

theorem moveWideHwReserved_iff {sf : BitVec 1} {hw : BitVec 2} :
    moveWideHwReserved sf hw = true ↔ sf = 0#1 ∧ 2 ≤ hw.toNat := by
  rw [moveWideHwReserved, Bool.and_eq_true, beq_iff_eq, hw.getLsbD_last, decide_eq_true_iff]

theorem amountReserved_iff {sf : BitVec 1} {imm6 : BitVec 6} :
    amountReserved sf imm6 = true ↔ sf = 0#1 ∧ 32 ≤ imm6.toNat := by
  rw [amountReserved, Bool.and_eq_true, beq_iff_eq, imm6.getLsbD_last, decide_eq_true_iff]

theorem addSubShiftReserved_iff {shift : BitVec 2} : addSubShiftReserved shift = true ↔ shift = 3#2 := beq_iff_eq

theorem checkWriteback_of_conflict {form : AddrForm} {rn rt : RegIdx} (hform : isWriteback form = true)
    (h : writebackConflict rn rt = true) (s : State) (body : Result) :
    checkWriteback form rn rt s body = .next { s with err := .illegal (Config.msg .ldstWritebackConflict) } := by
  rw [checkWriteback, hform, h, Bool.and_true, if_pos rfl, raise_of_illegal rfl]

theorem moveWide_of_reserved {sf : BitVec 1} {hw : BitVec 2} (h : moveWideHwReserved sf hw = true)
    (value : BitVec (datasize sf)) (rd : RegIdx) (s : State) :
    moveWide sf value hw rd s = .next { s with err := .illegal (Config.msg .moveWideHwReserved) } := by
  rw [moveWide, if_pos h, raise_of_illegal rfl]

/-- The shift is tested first, whatever the amount. -/
theorem checkAddSub_of_shiftReserved {shift : BitVec 2} (h : addSubShiftReserved shift = true) (sf : BitVec 1)
    (imm6 : BitVec 6) (s : State) (body : Result) :
    checkAddSub sf shift imm6 s body = .next { s with err := .illegal (Config.msg .addSubShiftReserved) } := by
  rw [checkAddSub, if_pos h, raise_of_illegal rfl]

theorem checkAddSub_of_amountReserved {sf : BitVec 1} {shift : BitVec 2} {imm6 : BitVec 6}
    (hshift : ¬ addSubShiftReserved shift = true) (h : amountReserved sf imm6 = true) (s : State) (body : Result) :
    checkAddSub sf shift imm6 s body = .next { s with err := .illegal (Config.msg .addSubAmountReserved) } := by
  rw [checkAddSub, if_neg hshift, if_pos h, raise_of_illegal rfl]

theorem checkLogical_of_reserved {sf : BitVec 1} {imm6 : BitVec 6} (h : amountReserved sf imm6 = true) (s : State)
    (body : Result) :
    checkLogical sf imm6 s body = .next { s with err := .illegal (Config.msg .logicalAmountReserved) } := by
  rw [checkLogical, if_pos h, raise_of_illegal rfl]

/-- Settles O48: each class of instructions runs its check ahead of the rest, so that one lemma per check serves all
the instructions of its class. -/
theorem reservedFieldsFaultIllegal : Obligations.ReservedFieldsFaultIllegal := by
  refine ⟨fun rm rn rd s => ?addVector, fun imm9 r s hr => ?writeback, fun hw imm16 rd s hhw => ?moveWide,
    fun sf rm imm6 rn rd s => ?shift, fun shift rm imm6 rn rd s hamount hshift => ?amount,
    fun shift rm imm6 rn rd s hamount => ?logical⟩
  case addVector => exact (execAddVector_of_reserved rfl rm rn rd s).trans (raise_of_illegal rfl s)
  case writeback =>
    have hpost := checkWriteback_of_conflict (form := .postIndex imm9) rfl (writebackConflict_self hr) s
    have hpre := checkWriteback_of_conflict (form := .preIndex imm9) rfl (writebackConflict_self hr) s
    exact ⟨hpost _, hpre _, hpost _, hpre _, hpost _, hpre _, hpost _, hpre _,
      hpost _, hpre _, hpost _, hpre _, hpost _, hpre _, hpost _, hpre _⟩
  case moveWide =>
    have hstop := moveWide_of_reserved (moveWideHwReserved_iff.mpr ⟨rfl, hhw⟩)
    exact ⟨hstop _ rd s, hstop _ rd s, hstop _ rd s⟩
  case shift =>
    generalize hshift : 3#2 = shift
    have hstop := checkAddSub_of_shiftReserved (addSubShiftReserved_iff.mpr hshift.symm) sf imm6 s
    exact ⟨hstop _, hstop _, hstop _, hstop _⟩
  case amount =>
    have hstop := checkAddSub_of_amountReserved (mt addSubShiftReserved_iff.mp hshift)
      (amountReserved_iff.mpr ⟨rfl, hamount⟩) s
    exact ⟨hstop _, hstop _, hstop _, hstop _⟩
  case logical =>
    have hstop := checkLogical_of_reserved (amountReserved_iff.mpr ⟨rfl, hamount⟩) s
    exact ⟨hstop _, hstop _, hstop _, hstop _, hstop _, hstop _, hstop _, hstop _⟩

end Sys2Proof.Machine
end

section
/-! SUPPORT and PROOFS. The AES round instructions (spec/41_crypto_aes.md R180 to R189): a 128-bit value as sixteen
bytes, the field GF(2^8), the two S-box tables, the movement of bytes, and the mixing of columns as a product of
coefficient rows. -/

namespace Sys2Proof.Machine

/-! ## Sixteen bytes (R180) -/

theorem byteAt_ofBytes (f : Nat → Byte) {i : Nat} (hi : i < 16) : byteAt (ofBytes f) i = f i := elem_fromLanes f hi

theorem byteAt_xor (u v : VWord) (i : Nat) : byteAt (u ^^^ v) i = byteAt u i ^^^ byteAt v i := BitVec.extractLsb'_xor

theorem eq_of_byteAt_eq {u v : VWord} (h : ∀ i, i < 16 → byteAt u i = byteAt v i) : u = v :=
  eq_of_elem_eq (es := 8) (k := 16) (by decide) h

theorem ofBytes_congr {f g : Nat → Byte} (h : ∀ i, i < 16 → f i = g i) : ofBytes f = ofBytes g :=
  eq_of_byteAt_eq fun i hi => by rw [byteAt_ofBytes f hi, byteAt_ofBytes g hi, h i hi]

theorem ofBytes_byteAt (v : VWord) : ofBytes (byteAt v) = v := eq_of_byteAt_eq fun _ hi => byteAt_ofBytes _ hi

theorem ofBytes_xor (f g : Nat → Byte) : ofBytes (fun i => f i ^^^ g i) = ofBytes f ^^^ ofBytes g :=
  eq_of_byteAt_eq fun i hi => by rw [byteAt_xor, byteAt_ofBytes _ hi, byteAt_ofBytes f hi, byteAt_ofBytes g hi]

/-! ## Maps that keep EOR, the addition of the field (R181) -/

/-- The map is linear over EOR. -/
def KeepsXor (f : Byte → Byte) : Prop := ∀ a b, f (a ^^^ b) = f a ^^^ f b

theorem ite_xor_bool (p q : Bool) (m : Byte) :
    (if p ^^ q then m else 0#8) = (if p then m else 0#8) ^^^ (if q then m else 0#8) := by
  cases p <;> cases q <;> simp

theorem ite_xor_byte (p : Bool) (m n : Byte) :
    (if p then m ^^^ n else 0#8) = (if p then m else 0#8) ^^^ (if p then n else 0#8) := by
  cases p <;> simp

theorem xor_xor_xor_comm (a b c d : Byte) : (a ^^^ b) ^^^ (c ^^^ d) = (a ^^^ c) ^^^ (b ^^^ d) := by ac_rfl

theorem xtime_xor : KeepsXor xtime := fun a b => by
  simp only [xtime, BitVec.shiftLeft_xor_distrib, BitVec.getLsbD_xor, ite_xor_bool, xor_xor_xor_comm]

theorem xtimes_xor (k : Nat) : KeepsXor (xtimes k) := fun a b => by
  induction k with
  | zero => rfl
  | succ k ih => rw [xtimes, ih, xtime_xor]; rfl

theorem gmulBelow_xor_left (b : Byte) (k : Nat) : KeepsXor (fun a => gmulBelow a b k) := fun a a' => by
  induction k with
  | zero => exact (BitVec.xor_self (x := 0#8)).symm
  | succ k ih => simp only [gmulBelow, ih, xtimes_xor k a a', ite_xor_byte, xor_xor_xor_comm]

theorem gmulBelow_xor_right (a : Byte) (k : Nat) : KeepsXor (fun b => gmulBelow a b k) := fun b b' => by
  induction k with
  | zero => exact (BitVec.xor_self (x := 0#8)).symm
  | succ k ih => simp only [gmulBelow, ih, BitVec.getLsbD_xor, ite_xor_bool, xor_xor_xor_comm]

theorem gmul_xor_left (b : Byte) : KeepsXor (fun a => gmul a b) := gmulBelow_xor_left b 8

theorem gmul_xor_right (a : Byte) : KeepsXor (gmul a) := gmulBelow_xor_right a 8

theorem KeepsXor.map_zero {f : Byte → Byte} (hf : KeepsXor f) : f 0#8 = 0#8 := by
  have hdouble := hf 0#8 0#8
  rwa [BitVec.xor_self, BitVec.xor_self] at hdouble

theorem KeepsXor.map_ite {f : Byte → Byte} (hf : KeepsXor f) (p : Bool) (m : Byte) :
    f (if p then m else 0#8) = if p then f m else 0#8 := by
  rw [apply_ite f, hf.map_zero]

/-- A linear map that commutes with multiplication by x commutes with every multiplication. -/
theorem KeepsXor.map_gmul {f : Byte → Byte} (hf : KeepsXor f) (hx : ∀ a, f (xtime a) = xtime (f a)) (a b : Byte) :
    f (gmul a b) = gmul (f a) b := by
  have hxs : ∀ k, f (xtimes k a) = xtimes k (f a) := by
    intro k
    induction k with
    | zero => rfl
    | succ k ih => rw [xtimes, hx, ih]; rfl
  have hbelow : ∀ k, f (gmulBelow a b k) = gmulBelow (f a) b k := by
    intro k
    induction k with
    | zero => exact hf.map_zero
    | succ k ih => rw [gmulBelow, hf, hf.map_ite, ih, hxs]; rfl
  exact hbelow 8

/-- Every byte is the sum of the powers of x that its bits name. -/
theorem one_gmul (b : Byte) : gmul 1#8 b = b := by
  revert b; decide

/-- Linear maps that agree on the powers of x are equal. -/
theorem KeepsXor.ext {f g : Byte → Byte} (hf : KeepsXor f) (hg : KeepsXor g)
    (h : ∀ k : Fin 8, f (xtimes k 1#8) = g (xtimes k 1#8)) (b : Byte) : f b = g b := by
  have hbelow : ∀ k, k ≤ 8 → f (gmulBelow 1#8 b k) = g (gmulBelow 1#8 b k) := by
    intro k
    induction k with
    | zero => exact fun _ => hf.map_zero.trans hg.map_zero.symm
    | succ k ih => intro hk; rw [gmulBelow, hf, hg, hf.map_ite, hg.map_ite, ih (by omega), h ⟨k, hk⟩]
  have hb := hbelow 8 le_rfl
  rwa [show gmulBelow 1#8 b 8 = b from one_gmul b] at hb

/-! ## The product of the field (R181) -/

theorem gmul_comm (a b : Byte) : gmul a b = gmul b a := by
  refine (gmul_xor_left b).ext (gmul_xor_right b) (fun j => ?_) a
  refine (gmul_xor_right _).ext (gmul_xor_left _) (fun k => ?_) b
  revert j k; decide

theorem gmul_xtime_left (a b : Byte) : gmul (xtime a) b = xtime (gmul a b) :=
  (xtime_xor.map_gmul (fun _ => rfl) a b).symm

theorem gmul_xtime_right (a b : Byte) : gmul a (xtime b) = xtime (gmul a b) := by
  rw [gmul_comm, gmul_xtime_left, gmul_comm]

theorem gmul_assoc (a b c : Byte) : gmul (gmul a b) c = gmul a (gmul b c) :=
  ((gmul_xor_right a).map_gmul (gmul_xtime_right a) b c).symm

theorem xor_gmul (a b c : Byte) : gmul (a ^^^ b) c = gmul a c ^^^ gmul b c := gmul_xor_left c a b

theorem gmul_xor (a b c : Byte) : gmul a (b ^^^ c) = gmul a b ^^^ gmul a c := gmul_xor_right a b c

theorem zero_gmul (b : Byte) : gmul 0#8 b = 0#8 := (gmul_xor_left b).map_zero

/-! The six products that R181 writes out, each factor written as the sum of its powers of x. -/

theorem gmul_2 (b : Byte) : gmul 2#8 b = xtime b := by
  rw [show 2#8 = xtime 1#8 by decide, gmul_xtime_left, one_gmul]

theorem gmul_4 (b : Byte) : gmul 4#8 b = xtime (xtime b) := by
  rw [show 4#8 = xtime 2#8 by decide, gmul_xtime_left, gmul_2]

theorem gmul_8 (b : Byte) : gmul 8#8 b = xtime (xtime (xtime b)) := by
  rw [show 8#8 = xtime 4#8 by decide, gmul_xtime_left, gmul_4]

theorem gmul_3 (b : Byte) : gmul 3#8 b = xtime b ^^^ b := by
  rw [show 3#8 = 2#8 ^^^ 1#8 by decide, xor_gmul, gmul_2, one_gmul]

theorem gmul_9 (b : Byte) : gmul 9#8 b = xtime (xtime (xtime b)) ^^^ b := by
  rw [show 9#8 = 8#8 ^^^ 1#8 by decide, xor_gmul, gmul_8, one_gmul]

theorem gmul_B (b : Byte) : gmul 0xB#8 b = xtime (xtime (xtime b)) ^^^ xtime b ^^^ b := by
  rw [show 0xB#8 = 8#8 ^^^ 2#8 ^^^ 1#8 by decide, xor_gmul, xor_gmul, gmul_8, gmul_2, one_gmul]

theorem gmul_D (b : Byte) : gmul 0xD#8 b = xtime (xtime (xtime b)) ^^^ xtime (xtime b) ^^^ b := by
  rw [show 0xD#8 = 8#8 ^^^ 4#8 ^^^ 1#8 by decide, xor_gmul, xor_gmul, gmul_8, gmul_4, one_gmul]

theorem gmul_E (b : Byte) : gmul 0xE#8 b = xtime (xtime (xtime b)) ^^^ xtime (xtime b) ^^^ xtime b := by
  rw [show 0xE#8 = 8#8 ^^^ 4#8 ^^^ 2#8 by decide, xor_gmul, xor_gmul, gmul_8, gmul_4, gmul_2]

/-! ## The S-box tables (R182, R183) -/

/-- The affine transform of R182, its sums of rotated bits written as rotations. -/
def affine (x : Byte) : Byte := x ^^^ ror x 4 ^^^ ror x 5 ^^^ ror x 6 ^^^ ror x 7 ^^^ 0x63#8

theorem getLsbD_affine (x : Byte) {i : Nat} (hi : i < 8) :
    (affine x).getLsbD i =
      (x.getLsbD i ^^ x.getLsbD ((i + 4) % 8) ^^ x.getLsbD ((i + 5) % 8) ^^ x.getLsbD ((i + 6) % 8) ^^
        x.getLsbD ((i + 7) % 8) ^^ (0x63#8).getLsbD i) := by
  simp only [affine, BitVec.getLsbD_xor, getLsbD_ror x _ hi, Bool.xor_assoc]

/-- The inverse of the affine transform. -/
def affineInverse (y : Byte) : Byte := ror y 2 ^^^ ror y 5 ^^^ ror y 7 ^^^ 0x05#8

theorem affine_affineInverse (y : Byte) : affine (affineInverse y) = y := by
  revert y; decide

/-- Entry by entry: what the affine transform made the entry of `b` from is the inverse of `b`. -/
theorem gmul_affineInverse_sbox (b : Byte) (hb : b ≠ 0#8) : gmul b (affineInverse (sbox b)) = 1#8 := by
  revert b; decide

theorem invSbox_sbox (b : Byte) : invSbox (sbox b) = b := by
  revert b; decide

theorem sbox_invSbox (b : Byte) : sbox (invSbox b) = b := by
  revert b; decide

theorem byteAt_subBytes (v : VWord) {i : Nat} (hi : i < 16) : byteAt (subBytes v) i = sbox (byteAt v i) :=
  byteAt_ofBytes _ hi

theorem byteAt_invSubBytes (v : VWord) {i : Nat} (hi : i < 16) : byteAt (invSubBytes v) i = invSbox (byteAt v i) :=
  byteAt_ofBytes _ hi

/-- Settles O36: the byte whose affine transform is the table's entry for `b` is the inverse of `b`. -/
theorem sboxIsTheAffineTransformOfTheInverse : Obligations.SboxIsTheAffineTransformOfTheInverse := by
  refine ⟨fun b => ⟨affineInverse (sbox b), ?zero, gmul_affineInverse_sbox b, fun i hi => ?bit⟩,
    fun b => ⟨invSbox_sbox b, sbox_invSbox b⟩, fun v i hi => ⟨byteAt_subBytes v hi, byteAt_invSubBytes v hi⟩⟩
  case zero => rintro rfl; rfl
  case bit => rw [← getLsbD_affine _ hi, affine_affineInverse]

/-! ## The rows of the state move (R188) -/

section Position
variable {r c : Nat} (hr : r < 4) (hc : c < 4)
include hr hc

theorem byteAt_shiftRows (v : VWord) : byteAt (shiftRows v) (r + 4 * c) = byteAt v (r + 4 * ((c + r) % 4)) := by
  have hrow : (r + 4 * c) % 4 = r := by omega
  have hcol : (r + 4 * c) / 4 = c := by omega
  rw [shiftRows, byteAt_ofBytes _ (by omega), hrow, hcol]

theorem byteAt_invShiftRows (v : VWord) :
    byteAt (invShiftRows v) (r + 4 * c) = byteAt v (r + 4 * ((c + 4 - r) % 4)) := by
  have hrow : (r + 4 * c) % 4 = r := by omega
  have hcol : (r + 4 * c) / 4 = c := by omega
  rw [invShiftRows, byteAt_ofBytes _ (by omega), hrow, hcol]

/-- The byte that `InvShiftRows` puts where ShiftRows took it from. -/
theorem byteAt_invShiftRows_shifted (v : VWord) :
    byteAt (invShiftRows v) (r + 4 * ((c + r) % 4)) = byteAt v (r + 4 * c) := by
  have hback : ((c + r) % 4 + 4 - r) % 4 = c := by omega
  rw [byteAt_invShiftRows hr (Nat.mod_lt _ (by decide)), hback]

theorem byteAt_shiftRows_shifted (v : VWord) :
    byteAt (shiftRows v) (r + 4 * ((c + 4 - r) % 4)) = byteAt v (r + 4 * c) := by
  have hback : ((c + 4 - r) % 4 + r) % 4 = c := by omega
  rw [byteAt_shiftRows hr (Nat.mod_lt _ (by decide)), hback]

end Position

/-- Two values that agree at every row and column are equal. -/
theorem eq_of_byteAt_row_col_eq {u v : VWord}
    (h : ∀ r c, r < 4 → c < 4 → byteAt u (r + 4 * c) = byteAt v (r + 4 * c)) : u = v :=
  eq_of_byteAt_eq fun i hi => by
    have hpos := h (i % 4) (i / 4) (Nat.mod_lt i (by decide)) (Nat.div_lt_of_lt_mul hi)
    rwa [Nat.mod_add_div] at hpos

theorem invShiftRows_shiftRows (v : VWord) : invShiftRows (shiftRows v) = v :=
  eq_of_byteAt_row_col_eq fun _ _ hr hc => (byteAt_invShiftRows hr hc _).trans (byteAt_shiftRows_shifted hr hc v)

theorem shiftRows_invShiftRows (v : VWord) : shiftRows (invShiftRows v) = v :=
  eq_of_byteAt_row_col_eq fun _ _ hr hc => (byteAt_shiftRows hr hc _).trans (byteAt_invShiftRows_shifted hr hc v)

/-- What is done to each byte alone commutes with a move of the bytes. -/
theorem ofBytes_map_move (f : Byte → Byte) {p : Nat → Nat} (hp : ∀ i, i < 16 → p i < 16) (v : VWord) :
    ofBytes (fun i => f (byteAt (ofBytes fun j => byteAt v (p j)) i)) =
      ofBytes (fun j => byteAt (ofBytes fun i => f (byteAt v i)) (p j)) :=
  ofBytes_congr fun i hi => by rw [byteAt_ofBytes _ hi, byteAt_ofBytes _ (hp i hi)]

theorem map_shiftRows (f : Byte → Byte) (v : VWord) :
    ofBytes (fun i => f (byteAt (shiftRows v) i)) = shiftRows (ofBytes fun i => f (byteAt v i)) :=
  ofBytes_map_move f (fun i _ => by omega) v

theorem map_invShiftRows (f : Byte → Byte) (v : VWord) :
    ofBytes (fun i => f (byteAt (invShiftRows v) i)) = invShiftRows (ofBytes fun i => f (byteAt v i)) :=
  ofBytes_map_move f (fun i _ => by omega) v

/-! ## The columns mix (R189) -/

/-- Each byte becomes the combination of its column with the coefficients `k`, the byte's own first. -/
def mixWith (k : Fin 4 → Byte) (v : VWord) : VWord :=
  ofBytes (fun i => gmul (k 0) (columnByte v i 0) ^^^ gmul (k 1) (columnByte v i 1) ^^^
    gmul (k 2) (columnByte v i 2) ^^^ gmul (k 3) (columnByte v i 3))

/-- The coefficients of `mixWith k` after `mixWith l`: the product of the rows as polynomials modulo
`y^4 + 1`, where `i + 3` is `i - 1`. -/
def mixProduct (k l : Fin 4 → Byte) (i : Fin 4) : Byte :=
  gmul (k 0) (l i) ^^^ gmul (k 1) (l (i + 3)) ^^^ gmul (k 2) (l (i + 2)) ^^^ gmul (k 3) (l (i + 1))

/-- The coefficients of MixColumns (R189). -/
def mixRow : Fin 4 → Byte := ![2#8, 3#8, 1#8, 1#8]

/-- The coefficients of InvMixColumns (R189). -/
def invMixRow : Fin 4 → Byte := ![0xE#8, 0xB#8, 0xD#8, 9#8]

theorem mixColumns_eq_mixWith (v : VWord) : mixColumns v = mixWith mixRow v :=
  ofBytes_congr fun i _ => by
    rw [show mixRow 2 = 1#8 from rfl, show mixRow 3 = 1#8 from rfl, one_gmul, one_gmul]; rfl

theorem invMixColumns_eq_mixWith (v : VWord) : invMixColumns v = mixWith invMixRow v := rfl

theorem columnByte_row_col {r : Nat} (hr : r < 4) (v : VWord) (c k : Nat) :
    columnByte v (4 * c + r) k = byteAt v (4 * c + (r + k) % 4) := by
  have hcol : (4 * c + r) / 4 = c := by omega
  have hrow : (4 * c + r) % 4 = r := by omega
  rw [columnByte, hcol, hrow]

theorem columnByte_zero (v : VWord) (i : Nat) : columnByte v i 0 = byteAt v i := by
  rw [columnByte, Nat.add_zero, Nat.mod_mod, Nat.div_add_mod]

theorem columnByte_xor (u v : VWord) (i k : Nat) :
    columnByte (u ^^^ v) i k = columnByte u i k ^^^ columnByte v i k := byteAt_xor u v _

theorem mixWith_xor (k : Fin 4 → Byte) (u v : VWord) : mixWith k (u ^^^ v) = mixWith k u ^^^ mixWith k v := by
  rw [mixWith, mixWith, mixWith, ← ofBytes_xor]
  refine ofBytes_congr fun i _ => ?_
  simp only [columnByte_xor, gmul_xor]
  ac_rfl

/-- A column has four bytes, so byte `r + 4` of it is byte `r`. -/
theorem columnByte_add_four (v : VWord) (i k : Nat) : columnByte v i (k + 4) = columnByte v i k := by
  rw [columnByte, columnByte, ← Nat.add_assoc, Nat.add_mod_right]

theorem columnByte_mixWith (k : Fin 4 → Byte) (v : VWord) {i : Nat} (hi : i < 16) (j : Nat) :
    columnByte (mixWith k v) i j = gmul (k 0) (columnByte v i j) ^^^ gmul (k 1) (columnByte v i (j + 1)) ^^^
      gmul (k 2) (columnByte v i (j + 2)) ^^^ gmul (k 3) (columnByte v i (j + 3)) := by
  have hcol : ∀ m, columnByte v (4 * (i / 4) + (i % 4 + j) % 4) m = columnByte v i (j + m) := fun m => by
    rw [columnByte_row_col (Nat.mod_lt _ (by decide)), Nat.mod_add_mod, Nat.add_assoc, columnByte]
  rw [columnByte, mixWith, byteAt_ofBytes _ (by omega), hcol, hcol, hcol, hcol, Nat.add_zero]

theorem mixWith_mixWith (k l : Fin 4 → Byte) (v : VWord) : mixWith k (mixWith l v) = mixWith (mixProduct k l) v := by
  refine ofBytes_congr fun i hi => ?_
  have h4 : columnByte v i 4 = columnByte v i 0 := columnByte_add_four v i 0
  have h5 : columnByte v i 5 = columnByte v i 1 := columnByte_add_four v i 1
  have h6 : columnByte v i 6 = columnByte v i 2 := columnByte_add_four v i 2
  simp only [columnByte_mixWith l v hi, mixProduct, xor_gmul, gmul_assoc, gmul_xor, Nat.reduceAdd, Fin.reduceAdd,
    h4, h5, h6]
  ac_rfl

theorem mixWith_unit (v : VWord) : mixWith ![1#8, 0#8, 0#8, 0#8] v = v :=
  (ofBytes_congr fun i _ => by simp [one_gmul, zero_gmul, columnByte_zero]).trans (ofBytes_byteAt v)

theorem mixProduct_invMixRow_mixRow : mixProduct invMixRow mixRow = ![1#8, 0#8, 0#8, 0#8] := by decide

theorem mixProduct_mixRow_invMixRow : mixProduct mixRow invMixRow = ![1#8, 0#8, 0#8, 0#8] := by decide

theorem invMixColumns_mixColumns (v : VWord) : invMixColumns (mixColumns v) = v := by
  rw [mixColumns_eq_mixWith, invMixColumns_eq_mixWith, mixWith_mixWith, mixProduct_invMixRow_mixRow, mixWith_unit]

theorem mixColumns_invMixColumns (v : VWord) : mixColumns (invMixColumns v) = v := by
  rw [mixColumns_eq_mixWith, invMixColumns_eq_mixWith, mixWith_mixWith, mixProduct_mixRow_invMixRow, mixWith_unit]

theorem byteAt_mixColumns (v : VWord) {i : Nat} (hi : i < 16) :
    byteAt (mixColumns v) i = gmul 2#8 (columnByte v i 0) ^^^ gmul 3#8 (columnByte v i 1) ^^^ columnByte v i 2 ^^^
      columnByte v i 3 := byteAt_ofBytes _ hi

theorem byteAt_invMixColumns (v : VWord) {i : Nat} (hi : i < 16) :
    byteAt (invMixColumns v) i = gmul 0xE#8 (columnByte v i 0) ^^^ gmul 0xB#8 (columnByte v i 1) ^^^
      gmul 0xD#8 (columnByte v i 2) ^^^ gmul 9#8 (columnByte v i 3) := byteAt_ofBytes _ hi

/-- Settles O37: the row transformations are moves of bytes to and fro, and the column transformations are products
with coefficient rows whose product is the unit row. -/
theorem aesTransformsAreInverse : Obligations.AesTransformsAreInverse := by
  intro u v
  refine ⟨fun r c hr hc => ⟨byteAt_shiftRows hr hc v, byteAt_invShiftRows hr hc v⟩,
    invShiftRows_shiftRows v, shiftRows_invShiftRows v, map_shiftRows sbox v, map_invShiftRows sbox v,
    map_shiftRows invSbox v, map_invShiftRows invSbox v, fun r c hr hc a ha => ?columns,
    invMixColumns_mixColumns v, mixColumns_invMixColumns v, ?mix, mixWith_xor invMixRow u v⟩
  case columns =>
    have hcol : ∀ k, columnByte v (4 * c + r) k = a (r + k) := fun k => by rw [columnByte_row_col hr, ha]
    rw [byteAt_mixColumns v (by omega), byteAt_invMixColumns v (by omega), hcol, hcol, hcol, hcol]
    exact ⟨rfl, rfl⟩
  case mix => simp only [mixColumns_eq_mixWith, mixWith_xor]

/-! ## The four instructions (R184 to R187) -/

theorem exec_aese (rn rd : RegIdx) (s : State) :
    exec (.aese rn rd) s = .next { s.writeV rd (subBytes (shiftRows (s.readV rd ^^^ s.readV rn))) with
      pc := wordPlus s.pc 4 } := next_advance _

theorem exec_aesd (rn rd : RegIdx) (s : State) :
    exec (.aesd rn rd) s = .next { s.writeV rd (invSubBytes (invShiftRows (s.readV rd ^^^ s.readV rn))) with
      pc := wordPlus s.pc 4 } := next_advance _

theorem exec_aesmc (rn rd : RegIdx) (s : State) :
    exec (.aesmc rn rd) s = .next { s.writeV rd (mixColumns (s.readV rn)) with pc := wordPlus s.pc 4 } :=
  next_advance _

theorem exec_aesimc (rn rd : RegIdx) (s : State) :
    exec (.aesimc rn rd) s = .next { s.writeV rd (invMixColumns (s.readV rn)) with pc := wordPlus s.pc 4 } :=
  next_advance _

/-- Settles O35: the bytes of each transformation at row `r` and column `c`, the products by R181's sums of xtime. -/
theorem aesInstructionBytes : Obligations.AesInstructionBytes := by
  intro rn rd s
  refine ⟨⟨_, exec_aese rn rd s, fun r c hr hc => ?aese⟩, ⟨_, exec_aesd rn rd s, fun r c hr hc => ?aesd⟩,
    ⟨_, exec_aesmc rn rd s, fun r c hr hc a ha => ?aesmc⟩, ⟨_, exec_aesimc rn rd s, fun r c hr hc a ha => ?aesimc⟩⟩
  case aese => rw [byteAt_subBytes _ (by omega), byteAt_shiftRows hr hc, byteAt_xor]
  case aesd => rw [byteAt_invSubBytes _ (by omega), byteAt_invShiftRows_shifted hr hc, byteAt_xor]
  case aesmc =>
    have hcol : ∀ k, columnByte (s.readV rn) (4 * c + r) k = a k := fun k => by rw [columnByte_row_col hr, ha]
    rw [byteAt_mixColumns _ (by omega), hcol, hcol, hcol, hcol, gmul_2, gmul_3]
  case aesimc =>
    have hcol : ∀ k, columnByte (s.readV rn) (4 * c + r) k = a k := fun k => by rw [columnByte_row_col hr, ha]
    rw [byteAt_invMixColumns _ (by omega), hcol, hcol, hcol, hcol, gmul_E, gmul_B, gmul_D, gmul_9]

end Sys2Proof.Machine
end

section
/-! SUPPORT and PROOFS. Branches and NOP (spec/42_branches_and_system.md R200 to R211): the target each one
computes, whether it is taken, and what all of them leave unchanged. -/

namespace Sys2Proof.Machine

/-! ## Targets relative to pc (R200) -/

/-- An immediate counted in words, added to an address. -/
theorem add_sext_concat_00 {n : Nat} (h : n + 2 ≤ 64) (a : Word) (imm : BitVec n) :
    a + sext 64 (concat imm 0b00#2) h = wordPlus a (4 * imm.toInt) := by
  have hval : (concat imm 0b00#2).toInt = 4 * imm.toInt := BitVec.toInt_append_zero
  rw [sext, BitVec.signExtend, hval, wordPlus_eq]

theorem add_offset26 (a : Word) (imm26 : BitVec 26) : a + offset26 imm26 = wordPlus a (4 * imm26.toInt) :=
  add_sext_concat_00 (by decide) a imm26

theorem add_offset19 (a : Word) (imm19 : BitVec 19) : a + offset19 imm19 = wordPlus a (4 * imm19.toInt) :=
  add_sext_concat_00 (by decide) a imm19

/-! ## Unconditional branches and NOP (R202 to R204, R208 to R211) -/

theorem exec_b (imm26 : BitVec 26) (s : State) :
    exec (.b imm26) s = .next (s.setPc (wordPlus s.pc (4 * imm26.toInt))) := by
  rw [← add_offset26]; rfl

theorem exec_bl (imm26 : BitVec 26) (s : State) :
    exec (.bl imm26) s = .next ((link s).setPc (wordPlus s.pc (4 * imm26.toInt))) := by
  rw [← add_offset26]; rfl

theorem exec_br (rn : RegIdx) (s : State) : exec (.br rn) s = .next (s.setPc (s.readX rn)) := by rfl

theorem exec_blr (rn : RegIdx) (s : State) : exec (.blr rn) s = .next ((link s).setPc (s.readX rn)) := by rfl

theorem exec_ret (rn : RegIdx) (s : State) : exec (.ret rn) s = .next (s.setPc (s.readX rn)) := by rfl

theorem exec_nop (s : State) : exec .nop s = .next s.advance := by rfl

theorem link_eq (s : State) : link s = { s with x := s.x.set 30 (wordPlus s.pc 4) } := by
  have hpc : wordPlus s.pc 4 = s.pc + 4#64 := wordPlus_natCast s.pc 4
  rw [hpc]
  exact State.writeX_of_lt s (i := 30#5) (by decide) (s.pc + 4#64)

/-- Settles O38: the equation of each instruction, with the link of R202 for BL and BLR. -/
theorem branchesSetPc : Obligations.BranchesSetPc := by
  intro s
  refine ⟨fun imm26 => exec_b imm26 s, fun imm26 => ?bl, fun rn => exec_br rn s, fun rn => ?blr,
    fun rn => exec_ret rn s, (exec_nop s).trans (next_advance s)⟩
  case bl => rw [exec_bl, link_eq]; rfl
  case blr => rw [exec_blr, link_eq]; rfl

/-! ## Conditional branches (R205 to R207) -/

/-- Taken or not, a conditional branch writes pc and nothing else. -/
theorem branchIf_eq_setPc (taken : Bool) (offset : Word) (s : State) :
    branchIf taken offset s = .next (s.setPc (s.pc + if taken then offset else 4#64)) := by
  cases taken <;> rfl

/-- The new pc in the words of the statement, `p` being the condition the branch tests. -/
theorem branchIf_offset19 {taken : Bool} {p : Prop} [Decidable p] (hp : taken = true ↔ p) (imm19 : BitVec 19)
    (s : State) : branchIf taken (offset19 imm19) s =
      .next { s with pc := wordPlus s.pc (if p then 4 * imm19.toInt else 4) } := by
  rw [branchIf_eq_setPc]
  by_cases h : p
  · rw [if_pos (hp.mpr h), if_pos h, add_offset19]; rfl
  · rw [if_neg (mt hp.mp h), if_neg h]; exact next_advance s

theorem toNat_gpr_datasize (sf : BitVec 1) (i : RegIdx) (s : State) :
    (s.gpr (datasize sf) i (datasize_le_64 sf)).toNat = xNat sf i s := BitVec.toNat_setWidth ..

theorem gpr_datasize_eq_zero_iff {sf : BitVec 1} {i : RegIdx} {s : State} :
    s.gpr (datasize sf) i (datasize_le_64 sf) = 0 ↔ xNat sf i s = 0 := by
  rw [← toNat_gpr_datasize, BitVec.toNat_eq]; rfl

theorem exec_bCond (imm19 : BitVec 19) (cond : BitVec 4) (s : State) :
    exec (.bCond imm19 cond) s = branchIf (conditionHolds s.flags cond) (offset19 imm19) s := by rfl

theorem exec_cbz (sf : BitVec 1) (imm19 : BitVec 19) (rt : RegIdx) (s : State) : exec (.cbz sf imm19 rt) s =
    branchIf (s.gpr (datasize sf) rt (datasize_le_64 sf) == 0) (offset19 imm19) s := by rfl

theorem exec_cbnz (sf : BitVec 1) (imm19 : BitVec 19) (rt : RegIdx) (s : State) : exec (.cbnz sf imm19 rt) s =
    branchIf (s.gpr (datasize sf) rt (datasize_le_64 sf) != 0) (offset19 imm19) s := by rfl

/-- Settles O39: the three differ in the condition only, and the register test is a test of its number. -/
theorem conditionalBranchesChoosePc : Obligations.ConditionalBranchesChoosePc := by
  intro s
  refine ⟨fun imm19 cond => ?bCond, fun sf imm19 rt => ?cbz, fun sf imm19 rt => ?cbnz⟩
  case bCond => rw [exec_bCond, branchIf_offset19 Iff.rfl]
  case cbz => rw [exec_cbz, branchIf_offset19 (beq_iff_eq.trans gpr_datasize_eq_zero_iff)]
  case cbnz =>
    rw [exec_cbnz, branchIf_offset19 (bne_iff_ne.trans (not_congr gpr_datasize_eq_zero_iff)), ite_not]

/-! ## What branches and NOP leave unchanged (R51, R202) -/

/-- Every component but pc and the registers of the list is as before. -/
def BranchFrame (but : List RegIdx) (s t : State) : Prop :=
  keepsX s t but ∧ t.sp = s.sp ∧ t.v = s.v ∧ t.flags = s.flags ∧ keepsMem s t ∧ t.err = s.err

theorem branchFrame_setPc (s : State) (p : Word) : BranchFrame [] s (s.setPc p) :=
  ⟨fun _ _ => State.readX_setPc .., rfl, rfl, rfl, fun _ => State.readByte_setPc .., rfl⟩

theorem branchFrame_link_setPc (s : State) (p : Word) : BranchFrame [30#5] s ((link s).setPc p) := by
  refine ⟨fun r hr => ?_, by simp [link], by simp [link], by simp [link], fun a => by simp [link], by simp [link]⟩
  have hne : r ≠ 30#5 := by simpa using hr
  rw [State.readX_setPc, link, State.readX_writeX_other s hne]

theorem branchFrame_of_setPc {s t : State} {p : Word} (h : (.next (s.setPc p) : Result) = .next t) :
    BranchFrame [] s t := next_inj.mp h ▸ branchFrame_setPc s p

theorem branchFrame_of_link_setPc {s t : State} {p : Word} (h : (.next ((link s).setPc p) : Result) = .next t) :
    BranchFrame [30#5] s t := next_inj.mp h ▸ branchFrame_link_setPc s p

theorem branchFrame_of_branchIf {taken : Bool} {offset : Word} {s t : State}
    (h : branchIf taken offset s = .next t) : BranchFrame [] s t :=
  branchFrame_of_setPc ((branchIf_eq_setPc taken offset s).symm.trans h)

/-- Settles O55: each instruction writes pc once, BL and BLR after the link. -/
theorem frameBranches : Obligations.FrameBranches := by
  refine ⟨fun imm26 imm19 cond sf r s t h => ?_, fun imm26 r s t h => ?_⟩
  · obtain hb | hbCond | hcbz | hcbnz | hbr | hret | hnop := h
    · exact branchFrame_of_setPc hb
    · exact branchFrame_of_branchIf hbCond
    · exact branchFrame_of_branchIf hcbz
    · exact branchFrame_of_branchIf hcbnz
    · exact branchFrame_of_setPc hbr
    · exact branchFrame_of_setPc hret
    · exact branchFrame_of_setPc hnop
  · obtain hbl | hblr := h
    · exact branchFrame_of_link_setPc hbl
    · exact branchFrame_of_link_setPc hblr

end Sys2Proof.Machine
end

section
/-! SUPPORT and PROOFS. Loads and stores (spec/43_loads_and_stores.md R230 to R253): the address of each form, the state
after an access and its write-back, and from them what the shared stores and loads do and leave unchanged. -/

namespace Sys2Proof.Machine

/-! ## Addresses and the values written back (R231) -/

theorem add_lsl_zext (a : Word) (imm12 : BitVec 12) (scale : Nat) :
    a + lsl (zext 64 imm12) scale = wordPlus a (imm12.toNat * 2 ^ scale) := by
  have hoffset : lsl (zext 64 imm12) scale = BitVec.ofNat 64 (imm12.toNat * 2 ^ scale) :=
    BitVec.eq_of_toNat_eq (by simp)
  rw [hoffset, ← wordPlus_natCast]
  norm_cast

theorem add_sext (a : Word) (imm9 : BitVec 9) : a + sext 64 imm9 = wordPlus a imm9.toInt :=
  (wordPlus_eq a imm9.toInt).symm

theorem ldstAddress_fst (scale : Nat) (form : AddrForm) (rn : RegIdx) (s : State) :
    (ldstAddress scale form rn s).1 = accessAddr scale form rn s := by
  cases form with
  | unsignedOffset imm12 => exact add_lsl_zext ..
  | postIndex imm9 => rfl
  | preIndex imm9 => exact add_sext ..

/-! ## The state after an access (R232 steps 6 to 8) -/

/-- The registers a form writes back: its base, or none. -/
def basesWritten : AddrForm → RegIdx → List RegIdx
  | .unsignedOffset _, _ => []
  | .postIndex _, rn => [rn]
  | .preIndex _, rn => [rn]

theorem not_mem_basesWritten {form : AddrForm} {rn r : RegIdx} (h : r ≠ rn) : r ∉ basesWritten form rn := by
  cases form with
  | unsignedOffset imm12 => exact List.not_mem_nil
  | postIndex imm9 | preIndex imm9 => exact mt List.mem_singleton.mp h

/-- A data register that is not the zero register is not the base written back (R233 (b)). -/
theorem not_mem_basesWritten_of_noConflict {form : AddrForm} {rn rt : RegIdx} (h : noConflict form rn rt)
    (hrt : rt ≠ 31#5) : rt ∉ basesWritten form rn := by
  have hne (hor : rn ≠ rt ∨ rn = 31#5) : rt ≠ rn := by
    rintro rfl
    exact hor.elim (absurd rfl) hrt
  cases form with
  | unsignedOffset imm12 => exact List.not_mem_nil
  | postIndex imm9 | preIndex imm9 => exact not_mem_basesWritten (hne h)

/-- The state a load or store on `s` answers when its access gives `u`: the base is written back and pc moves on. -/
def afterAccess (scale : Nat) (form : AddrForm) (rn : RegIdx) (s u : State) : State :=
  (writeBack rn (ldstAddress scale form rn s).2 u).advance

section
variable {scale : Nat} {form : AddrForm} {rn : RegIdx} {s u : State}

/-- Either nothing is written back, or the base takes the value of R231. -/
theorem afterAccess_cases (scale : Nat) (form : AddrForm) (rn : RegIdx) (s u : State) :
    (basesWritten form rn = [] ∧ baseAfter scale form rn s = s.readXSP rn ∧
      afterAccess scale form rn s u = u.advance) ∨
    (basesWritten form rn = [rn] ∧
      afterAccess scale form rn s u = (u.writeXSP rn (baseAfter scale form rn s)).advance) := by
  cases form with
  | unsignedOffset imm12 => exact .inl ⟨rfl, rfl, rfl⟩
  | postIndex imm9 | preIndex imm9 =>
    exact .inr ⟨rfl, congrArg (fun a => (u.writeXSP rn a).advance) (add_sext ..)⟩

@[simp] theorem afterAccess_v : (afterAccess scale form rn s u).v = u.v := by
  obtain ⟨-, -, h⟩ | ⟨-, h⟩ := afterAccess_cases scale form rn s u <;> simp [h]

@[simp] theorem afterAccess_pc : (afterAccess scale form rn s u).pc = u.pc + 4#64 := by
  obtain ⟨-, -, h⟩ | ⟨-, h⟩ := afterAccess_cases scale form rn s u <;> simp [h]

@[simp] theorem afterAccess_flags : (afterAccess scale form rn s u).flags = u.flags := by
  obtain ⟨-, -, h⟩ | ⟨-, h⟩ := afterAccess_cases scale form rn s u <;> simp [h]

@[simp] theorem afterAccess_mem : (afterAccess scale form rn s u).mem = u.mem := by
  obtain ⟨-, -, h⟩ | ⟨-, h⟩ := afterAccess_cases scale form rn s u <;> simp [h]

@[simp] theorem afterAccess_err : (afterAccess scale form rn s u).err = u.err := by
  obtain ⟨-, -, h⟩ | ⟨-, h⟩ := afterAccess_cases scale form rn s u <;> simp [h]

@[simp] theorem readByte_afterAccess (a : Word) : (afterAccess scale form rn s u).readByte a = u.readByte a :=
  State.readByte_congr afterAccess_mem a

@[simp] theorem readV_afterAccess (r : RegIdx) : (afterAccess scale form rn s u).readV r = u.readV r :=
  State.readV_congr afterAccess_v r

theorem readX_afterAccess {r : RegIdx} (hr : r ∉ basesWritten form rn) :
    (afterAccess scale form rn s u).readX r = u.readX r := by
  obtain ⟨-, -, h⟩ | ⟨hbases, h⟩ := afterAccess_cases scale form rn s u
  · rw [h, State.readX_advance]
  · have hne : r ≠ rn := by simpa [hbases] using hr
    rw [h, State.readX_advance, State.readX_writeXSP_other u hne]

theorem sp_afterAccess (hsp : 31#5 ∉ basesWritten form rn) : (afterAccess scale form rn s u).sp = u.sp := by
  obtain ⟨-, -, h⟩ | ⟨hbases, h⟩ := afterAccess_cases scale form rn s u
  · rw [h, State.advance_sp]
  · have hne : rn ≠ 31#5 := by simpa [hbases, eq_comm] using hsp
    rw [h, State.advance_sp, State.sp_writeXSP, if_neg hne]

/-- The base is as the form says wherever the access itself left it alone. -/
theorem readXSP_afterAccess (hu : u.readXSP rn = s.readXSP rn) :
    (afterAccess scale form rn s u).readXSP rn = baseAfter scale form rn s := by
  obtain ⟨-, hbase, h⟩ | ⟨-, h⟩ := afterAccess_cases scale form rn s u
  · rw [h, State.readXSP_advance, hu, hbase]
  · rw [h, State.readXSP_advance, State.readXSP_writeXSP_same]

end

/-- What an access leaves as it was: all but memory, the SIMD registers and the general-purpose registers listed. -/
structure AccessFrame (but : List RegIdx) (s u : State) : Prop where
  x : keepsX s u but
  sp : u.sp = s.sp
  pc : u.pc = s.pc
  flags : u.flags = s.flags
  err : u.err = s.err

theorem accessFrame_memWrite (s : State) (addr : Word) (n : Nat) (v : BitVec (8 * n)) :
    AccessFrame [] s (s.memWrite addr n v) :=
  ⟨fun _ _ => State.readX_memWrite .., State.memWrite_sp .., State.memWrite_pc .., State.memWrite_flags ..,
    State.memWrite_err ..⟩

theorem accessFrame_writeX (s : State) (rt : RegIdx) (value : Word) : AccessFrame [rt] s (s.writeX rt value) :=
  ⟨fun _ hr => State.readX_writeX_other s (by simpa using hr) value, State.writeX_sp .., State.writeX_pc ..,
    State.writeX_flags .., State.writeX_err ..⟩

theorem accessFrame_writeV (s : State) (rt : RegIdx) (value : VWord) : AccessFrame [] s (s.writeV rt value) :=
  ⟨fun _ _ => State.readX_writeV .., rfl, rfl, rfl, rfl⟩

theorem AccessFrame.keepsX_afterAccess {but : List RegIdx} {s u : State} (hu : AccessFrame but s u) (scale : Nat)
    (form : AddrForm) (rn : RegIdx) : keepsX s (afterAccess scale form rn s u) (but ++ basesWritten form rn) := by
  intro r hr
  obtain ⟨hbut, hbases⟩ : r ∉ but ∧ r ∉ basesWritten form rn := by simpa using hr
  rw [readX_afterAccess hbases, hu.x r hbut]

/-- What a completed load or store leaves unchanged, and where it leaves pc. -/
theorem AccessFrame.completes {but : List RegIdx} {s u : State} (hu : AccessFrame but s u) (scale : Nat)
    (form : AddrForm) (rn : RegIdx) :
    keepsX s (afterAccess scale form rn s u) (rn :: but) ∧
      (rn ≠ 31#5 → (afterAccess scale form rn s u).sp = s.sp) ∧
      (afterAccess scale form rn s u).pc = wordPlus s.pc 4 ∧ (afterAccess scale form rn s u).flags = s.flags ∧
      (afterAccess scale form rn s u).err = s.err := by
  refine ⟨fun r hr => ?_, fun hrn => ?_, ?_, afterAccess_flags.trans hu.flags, afterAccess_err.trans hu.err⟩
  · obtain ⟨hrn, hbut⟩ : r ≠ rn ∧ r ∉ but := by simpa using hr
    rw [readX_afterAccess (not_mem_basesWritten hrn), hu.x r hbut]
  · rw [sp_afterAccess (not_mem_basesWritten hrn.symm), hu.sp]
  · rw [afterAccess_pc, hu.pc]
    exact (wordPlus_natCast s.pc 4).symm

/-! ## The shared operations past their checks, and what else they can answer (R232, R233) -/

theorem writebackConflict_of_noConflict {form : AddrForm} {rn rt : RegIdx} (h : noConflict form rn rt) :
    (isWriteback form && writebackConflict rn rt) = false := by
  cases form with
  | unsignedOffset imm12 => rfl
  | postIndex imm9 | preIndex imm9 => obtain hne | hsp := h <;> simp [writebackConflict, *]

theorem checkWriteback_of_noConflict {form : AddrForm} {rn rt : RegIdx} (h : noConflict form rn rt) (s : State)
    (body : Result) : checkWriteback form rn rt s body = body := by
  rw [checkWriteback, writebackConflict_of_noConflict h, if_neg Bool.false_ne_true]

theorem ldstStep_of_aligned {rn : RegIdx} {s : State} (h : spAligned rn s) (scale : Nat) (form : AddrForm)
    (access : Word → State → State) :
    ldstStep scale form rn access s =
      .next (afterAccess scale form rn s (access (accessAddr scale form rn s) s)) := by
  rw [ldstStep, spMisaligned_of_aligned h, if_neg Bool.false_ne_true, ← ldstAddress_fst]
  rfl

/-- A load or store faulted, or its access gave `u` and it completed. -/
def FaultedOrAccessed (scale : Nat) (form : AddrForm) (rn : RegIdx) (s u t : State) : Prop :=
  (∃ site, t = s.faulted site) ∨ t = afterAccess scale form rn s u

namespace FaultedOrAccessed
variable {scale : Nat} {form : AddrForm} {rn : RegIdx} {s u t : State} {but : List RegIdx}

theorem frame (h : FaultedOrAccessed scale form rn s u t) (hu : AccessFrame but s u) :
    keepsX s t (but ++ basesWritten form rn) ∧ (31#5 ∉ basesWritten form rn → t.sp = s.sp) ∧ t.flags = s.flags ∧
      keepsErr s t := by
  obtain ⟨site, rfl⟩ | rfl := h
  · exact ⟨fun r _ => State.readX_faulted .., fun _ => rfl, rfl, .inr rfl⟩
  · exact ⟨hu.keepsX_afterAccess scale form rn, fun hsp => (sp_afterAccess hsp).trans hu.sp,
      afterAccess_flags.trans hu.flags, .inl (afterAccess_err.trans hu.err)⟩

theorem v_eq (h : FaultedOrAccessed scale form rn s u t) (hu : u.v = s.v) : t.v = s.v := by
  obtain ⟨site, rfl⟩ | rfl := h
  · rfl
  · exact afterAccess_v.trans hu

theorem readV_eq (h : FaultedOrAccessed scale form rn s u t) {r : RegIdx} (hu : u.readV r = s.readV r) :
    t.readV r = s.readV r := by
  obtain ⟨site, rfl⟩ | rfl := h
  · exact State.readV_faulted ..
  · exact (readV_afterAccess r).trans hu

theorem readByte_eq (h : FaultedOrAccessed scale form rn s u t) {a : Word} (hu : u.readByte a = s.readByte a) :
    t.readByte a = s.readByte a := by
  obtain ⟨site, rfl⟩ | rfl := h
  · exact State.readByte_faulted ..
  · exact (readByte_afterAccess a).trans hu

end FaultedOrAccessed

theorem ldstStep_faultedOrAccessed {scale : Nat} {form : AddrForm} {rn : RegIdx} {access : Word → State → State}
    {s t : State} (h : ldstStep scale form rn access s = .next t) :
    FaultedOrAccessed scale form rn s (access (accessAddr scale form rn s) s) t := by
  rw [← ldstAddress_fst]
  obtain ⟨-, hfault⟩ | ⟨-, hnext⟩ := ldstStep_cases h
  · exact .inl ⟨_, hfault⟩
  · exact .inr hnext

theorem checkWriteback_faultedOrAccessed {scale : Nat} {form : AddrForm} {rn rt : RegIdx}
    {access : Word → State → State} {s t : State}
    (h : checkWriteback form rn rt s (ldstStep scale form rn access s) = .next t) :
    FaultedOrAccessed scale form rn s (access (accessAddr scale form rn s) s) t := by
  obtain ⟨-, -, hfault⟩ | ⟨-, hbody⟩ := checkWriteback_cases h
  · exact .inl ⟨_, hfault⟩
  · exact ldstStep_faultedOrAccessed hbody

/-! ## The bytes of an access (R235) -/

/-- A byte below the width a value is cut to, or extended to, is that byte of the value itself. -/
theorem toNat_elem_setWidth {w n k : Nat} (v : BitVec w) (hk : k < n) :
    (elem 8 (v.setWidth (8 * n)) k).toNat = v.toNat / 256 ^ k % 256 := by
  have hcut : elem 8 (v.setWidth (8 * n)) k = v.extractLsb' (8 * k) 8 := by
    apply BitVec.eq_of_getLsbD_eq
    intro b hb
    have hin : 8 * k + b < 8 * n := by omega
    simp [elem_8_eq, hb, hin]
  rw [hcut, BitVec.extractLsb'_toNat, Nat.shiftRight_eq_div_pow, Nat.pow_mul]

theorem keepsMemOutside_memWrite (s : State) (addr : Word) {n : Nat} (v : BitVec (8 * n)) :
    keepsMemOutside s (s.memWrite addr n v) addr n := by
  intro r hr
  refine State.readByte_storeBytes_other s addr _ n r fun k hk he => ?_
  rw [he, toNat_add_ofNat_sub addr (by omega)] at hr
  omega

/-- A write of the low `n` bytes of a value of any width. -/
theorem holdsBytes_memWrite {s : State} (hs : s.Inv) (addr : Word) {n w : Nat} (hn : n ≤ 2 ^ 64) (v : BitVec w) :
    holdsBytes s (s.memWrite addr n (v.setWidth (8 * n))) addr n v.toNat :=
  ⟨fun k hk => by rw [State.readByte_memWrite_at hs addr hn _ hk, toNat_elem_setWidth v hk],
    keepsMemOutside_memWrite s addr _⟩

theorem State.memRead_succ (s : State) (addr : Word) (n : Nat) :
    s.memRead addr (n + 1) = concat (s.memRead (addr + 1#64) n) (s.readByte addr) := by
  have hfirst : addr + BitVec.ofNat 64 0 = addr := BitVec.add_zero addr
  have hnext : (fun e => s.readByte (addr + BitVec.ofNat 64 (e + 1))) =
      fun e => s.readByte (addr + 1#64 + BitVec.ofNat 64 e) := by
    funext e
    rw [BitVec.add_assoc, Nat.add_comm, BitVec.ofNat_add]
  rw [State.memRead, fromLanes, hfirst, hnext]
  rfl

theorem State.toNat_memRead (s : State) (addr : Word) (n : Nat) : (s.memRead addr n).toNat = bytesNat s addr n := by
  induction n generalizing addr with
  | zero => rfl
  | succ n ih => rw [State.memRead_succ, toNat_concat, ih, bytesNat]; omega

theorem two_pow_scale_le {scale : Nat} (h : scale ≤ 4) : 2 ^ scale ≤ 2 ^ 64 :=
  Nat.pow_le_pow_right (by decide) (by omega)

/-! ## Stores (the even rules from R236 to R252) -/

/-- What the access of a store gives: the low `2^scale` bytes of `v`, a whole register of either bank, are written. -/
def storeAccess (scale : Nat) (form : AddrForm) (rn : RegIdx) {w : Nat} (v : BitVec w) (s : State) : State :=
  s.memWrite (accessAddr scale form rn s) (2 ^ scale) (v.setWidth (8 * 2 ^ scale))

section Stores
variable {scale : Nat} {form : AddrForm} {rn rt : RegIdx} {s t : State} {w : Nat} {v : BitVec w} {i : Instr}

theorem storeAccess_completes (hs : s.Inv) (hscale : scale ≤ 4)
    (ht : t = afterAccess scale form rn s (storeAccess scale form rn v s)) :
    holdsBytes s t (accessAddr scale form rn s) (2 ^ scale) v.toNat ∧
      t.readXSP rn = baseAfter scale form rn s ∧ keepsX s t [rn] ∧ (rn ≠ 31#5 → t.sp = s.sp) ∧
      t.pc = wordPlus s.pc 4 ∧ t.v = s.v ∧ t.flags = s.flags ∧ t.err = s.err := by
  subst ht
  obtain ⟨hbytes, hout⟩ := holdsBytes_memWrite hs (accessAddr scale form rn s) (two_pow_scale_le hscale) v
  have hframe : AccessFrame [] s (storeAccess scale form rn v s) := accessFrame_memWrite ..
  obtain ⟨hx, hsp, hpc, hflags, herr⟩ := hframe.completes scale form rn
  refine ⟨⟨fun k hk => ?_, fun a ha => ?_⟩, readXSP_afterAccess (State.readXSP_memWrite ..), hx, hsp, hpc,
    afterAccess_v.trans (State.memWrite_v ..), hflags, herr⟩
  · rw [readByte_afterAccess, storeAccess, hbytes k hk]
  · rw [readByte_afterAccess, storeAccess, hout a ha]

theorem storesGpr_of_exec (h : scale ≤ 3) (hexec : ∀ s, exec i s = storeGpr scale form rn rt s h) :
    storesGpr scale form rn rt i := fun s hs hsp hconflict =>
  ⟨_, (hexec s).trans ((checkWriteback_of_noConflict hconflict s _).trans (ldstStep_of_aligned hsp scale form _)),
    storeAccess_completes hs (Nat.le_succ_of_le h) rfl⟩

theorem storesSimd_of_exec (h : scale ≤ 4) (hexec : ∀ s, exec i s = storeSimd scale form rn rt s h) :
    storesSimd scale form rn rt i := fun s hs hsp =>
  ⟨_, (hexec s).trans (ldstStep_of_aligned hsp scale form _), storeAccess_completes hs h rfl⟩

theorem storeAccess_frame (h : FaultedOrAccessed scale form rn s (storeAccess scale form rn v s) t) :
    keepsMemOutside s t (ldstAddress scale form rn s).1 (2 ^ scale) ∧ storeFrame s t (basesWritten form rn) := by
  have hframe : AccessFrame [] s (storeAccess scale form rn v s) := accessFrame_memWrite ..
  obtain ⟨hx, hsp, hflags, herr⟩ := h.frame hframe
  rw [ldstAddress_fst]
  exact ⟨fun a ha => h.readByte_eq (keepsMemOutside_memWrite s _ _ a ha), hx, hsp,
    h.v_eq (State.memWrite_v ..), hflags, herr⟩

theorem storeGpr_frame (form : AddrForm) (hscale : scale ≤ 3 := by decide) :
    storeGpr scale form rn rt s hscale = .next t →
    keepsMemOutside s t (ldstAddress scale form rn s).1 (2 ^ scale) ∧ storeFrame s t (basesWritten form rn) :=
  fun h => storeAccess_frame (v := s.readX rt) (checkWriteback_faultedOrAccessed h)

theorem storeSimd_frame (form : AddrForm) (hscale : scale ≤ 4 := by decide) :
    storeSimd scale form rn rt s hscale = .next t →
    keepsMemOutside s t (ldstAddress scale form rn s).1 (2 ^ scale) ∧ storeFrame s t (basesWritten form rn) :=
  fun h => storeAccess_frame (v := s.readV rt) (ldstStep_faultedOrAccessed h)

end Stores

/-! ## Loads (the odd rules from R237 to R253) -/

section Loads
variable {scale : Nat} {form : AddrForm} {rn rt : RegIdx} {s t : State} {i : Instr}

/-- The base is not the register a load writes: it is another one, or it is SP. -/
theorem State.readXSP_writeX_of_base (s : State) (value : Word) (h : rn ≠ rt ∨ rn = 31#5) :
    (s.writeX rt value).readXSP rn = s.readXSP rn := by
  by_cases hrn : rn = 31#5
  · rw [hrn, State.readXSP_sp, State.readXSP_sp, State.writeX_sp]
  · rw [State.readXSP_of_ne _ hrn, State.readXSP_of_ne _ hrn,
      State.readX_writeX_other s (h.resolve_right hrn) value]

theorem loadsGpr_of_exec (h : scale ≤ 3) (hexec : ∀ s, exec i s = loadGpr scale form rn rt s h) :
    loadsGpr scale form rn rt i := by
  intro s hsp hconflict
  have hnext := (checkWriteback_of_noConflict hconflict s _).trans (ldstStep_of_aligned hsp scale form
    (fun a t => t.setGpr rt (s.memRead a (2 ^ scale)) (gprAccess_le_64 h)))
  obtain ⟨hx, hspEq, hpc, hflags, herr⟩ := (accessFrame_writeX s rt _).completes scale form rn
  refine ⟨_, (hexec s).trans hnext, fun hrt => ?_,
    fun hbase => readXSP_afterAccess (s.readXSP_writeX_of_base _ hbase), hx, hspEq, hpc,
    afterAccess_v.trans (State.writeX_v ..), hflags, afterAccess_mem.trans (State.writeX_mem ..), herr⟩
  rw [readX_afterAccess (not_mem_basesWritten_of_noConflict hconflict hrt), State.setGpr,
    State.readX_writeX_same s hrt, toNat_zext, State.toNat_memRead]

theorem loadsSimd_of_exec (h : scale ≤ 4) (hexec : ∀ s, exec i s = loadSimd scale form rn rt s h) :
    loadsSimd scale form rn rt i := by
  intro s hsp
  have hnext := ldstStep_of_aligned hsp scale form
    (fun a t => t.setVpart rt (s.memRead a (2 ^ scale)) (simdAccess_le_128 h))
  obtain ⟨hx, hspEq, hpc, hflags, herr⟩ := (accessFrame_writeV s rt _).completes scale form rn
  refine ⟨_, (hexec s).trans hnext, ?_, readXSP_afterAccess (State.readXSP_writeV ..), hx, fun r hr => ?_, hspEq, hpc,
    hflags, afterAccess_mem.trans (State.writeV_mem ..), herr⟩
  · rw [readV_afterAccess, State.setVpart, State.readV_writeV_same, toNat_zext, State.toNat_memRead]
  · rw [readV_afterAccess, State.setVpart, State.readV_writeV_other s (by simpa using hr)]

/-- What a load into a general-purpose register leaves unchanged, `bases` being the registers it writes back. -/
def LoadGprFrame (bases : List RegIdx) (rt : RegIdx) (s t : State) : Prop :=
  keepsX s t (rt :: bases) ∧ (31#5 ∉ bases → t.sp = s.sp) ∧ t.v = s.v ∧ t.flags = s.flags ∧ keepsMem s t ∧
    keepsErr s t

/-- What a load into a SIMD register leaves unchanged, `bases` being the registers it writes back. -/
def LoadSimdFrame (bases : List RegIdx) (rt : RegIdx) (s t : State) : Prop :=
  keepsV s t [rt] ∧ keepsX s t bases ∧ (31#5 ∉ bases → t.sp = s.sp) ∧ t.flags = s.flags ∧ keepsMem s t ∧
    keepsErr s t

theorem loadGpr_frame (form : AddrForm) (hscale : scale ≤ 3) (h : loadGpr scale form rn rt s hscale = .next t) :
    LoadGprFrame (basesWritten form rn) rt s t := by
  have hcases := checkWriteback_faultedOrAccessed h
  obtain ⟨hx, hsp, hflags, herr⟩ := hcases.frame (accessFrame_writeX s rt _)
  exact ⟨hx, hsp, hcases.v_eq (State.writeX_v ..), hflags,
    fun _ => hcases.readByte_eq (State.readByte_writeX ..), herr⟩

theorem loadSimd_frame (form : AddrForm) (hscale : scale ≤ 4) (h : loadSimd scale form rn rt s hscale = .next t) :
    LoadSimdFrame (basesWritten form rn) rt s t := by
  have hcases := ldstStep_faultedOrAccessed h
  obtain ⟨hx, hsp, hflags, herr⟩ := hcases.frame (accessFrame_writeV s rt _)
  exact ⟨fun _ hr => hcases.readV_eq (State.readV_writeV_other s (by simpa using hr) _), hx, hsp, hflags,
    fun _ => hcases.readByte_eq (State.readByte_writeV ..), herr⟩

end Loads

/-! ## The statements -/

/-- Settles O49: each instruction is the shared store of its size in its addressing form. -/
theorem generalStoresComplete : Obligations.GeneralStoresComplete := by
  refine ⟨?_, ?_, ?_, ?_, ?_, ?_, ?_, ?_, ?_, ?_, ?_, ?_⟩
  all_goals exact fun _ _ _ => storesGpr_of_exec (by decide) fun _ => rfl

/-- Settles O50: each instruction is the shared load of its size in its addressing form. -/
theorem generalLoadsComplete : Obligations.GeneralLoadsComplete := by
  refine ⟨?_, ?_, ?_, ?_, ?_, ?_, ?_, ?_, ?_, ?_, ?_, ?_⟩
  all_goals exact fun _ _ _ => loadsGpr_of_exec (by decide) fun _ => rfl

/-- Settles O51, as O49 with the registers of the other bank. -/
theorem simdStoresComplete : Obligations.SimdStoresComplete := by
  refine ⟨?_, ?_, ?_, ?_, ?_, ?_, ?_, ?_, ?_, ?_, ?_, ?_, ?_, ?_, ?_⟩
  all_goals exact fun _ _ _ => storesSimd_of_exec (by decide) fun _ => rfl

/-- Settles O52, as O50 with the registers of the other bank. -/
theorem simdLoadsComplete : Obligations.SimdLoadsComplete := by
  refine ⟨?_, ?_, ?_, ?_, ?_, ?_, ?_, ?_, ?_, ?_, ?_, ?_, ?_, ?_, ?_⟩
  all_goals exact fun _ _ _ => loadsSimd_of_exec (by decide) fun _ => rfl

/-- Settles O58, by the frames of the shared loads, each without a write-back and with one. -/
theorem frameLoads : Obligations.FrameLoads := by
  intro imm12 imm9 rn rt s t
  have hbase (hrn : rn ≠ 31#5) : 31#5 ∉ [rn] := mt List.mem_singleton.mp hrn.symm
  refine ⟨fun h => ?gprOff, fun h => ?gprBack, fun h => ?simdOff, fun h => ?simdBack⟩
  case gprOff =>
    obtain ⟨hx, hsp, hrest⟩ : LoadGprFrame [] rt s t := by
      obtain h | h | h | h := h
      all_goals exact loadGpr_frame (.unsignedOffset imm12) (by decide) h
    exact ⟨hx, hsp List.not_mem_nil, hrest⟩
  case gprBack =>
    obtain ⟨hx, hsp, hrest⟩ : LoadGprFrame [rn] rt s t := by
      obtain h | h | h | h | h | h | h | h := h
      all_goals exact loadGpr_frame _ (by decide) h
    exact ⟨hx, fun hrn => hsp (hbase hrn), hrest⟩
  case simdOff =>
    obtain ⟨hv, hx, hsp, hrest⟩ : LoadSimdFrame [] rt s t := by
      obtain h | h | h | h | h := h
      all_goals exact loadSimd_frame (.unsignedOffset imm12) (by decide) h
    exact ⟨hv, hx, hsp List.not_mem_nil, hrest⟩
  case simdBack =>
    obtain ⟨hv, hx, hsp, hrest⟩ : LoadSimdFrame [rn] rt s t := by
      obtain h | h | h | h | h | h | h | h | h | h := h
      all_goals exact loadSimd_frame _ (by decide) h
    exact ⟨hv, hx, fun hrn => hsp (hbase hrn), hrest⟩

/-- Settles O59, by the frame of the shared stores: twelve from a general-purpose register, fifteen from a SIMD
register, in the three forms in turn. -/
theorem frameStores : Obligations.FrameStores := fun imm12 imm9 _ _ _ _ =>
  ⟨storeGpr_frame (.unsignedOffset imm12), storeGpr_frame (.postIndex imm9), storeGpr_frame (.preIndex imm9),
    storeGpr_frame (.unsignedOffset imm12), storeGpr_frame (.postIndex imm9), storeGpr_frame (.preIndex imm9),
    storeGpr_frame (.unsignedOffset imm12), storeGpr_frame (.postIndex imm9), storeGpr_frame (.preIndex imm9),
    storeGpr_frame (.unsignedOffset imm12), storeGpr_frame (.postIndex imm9), storeGpr_frame (.preIndex imm9),
    storeSimd_frame (.unsignedOffset imm12), storeSimd_frame (.postIndex imm9), storeSimd_frame (.preIndex imm9),
    storeSimd_frame (.unsignedOffset imm12), storeSimd_frame (.postIndex imm9), storeSimd_frame (.preIndex imm9),
    storeSimd_frame (.unsignedOffset imm12), storeSimd_frame (.postIndex imm9), storeSimd_frame (.preIndex imm9),
    storeSimd_frame (.unsignedOffset imm12), storeSimd_frame (.postIndex imm9), storeSimd_frame (.preIndex imm9),
    storeSimd_frame (.unsignedOffset imm12), storeSimd_frame (.postIndex imm9), storeSimd_frame (.preIndex imm9)⟩

end Sys2Proof.Machine
end

section
/-! SUPPORT and PROOFS. Data processing, immediate (spec/44_dp_immediate.md R260 to R273): the result and the flags of
an add or subtract as numbers, the bits of a move-wide result, and the address an ADR or ADRP forms. -/

namespace Sys2Proof.Machine

/-! ## The flags of AddWithCarry as those of a sum or a difference (R41, R262) -/

section AddWithCarry
variable {w : Nat} (x y : BitVec w)

theorem toNat_addWithCarry_false : (addWithCarry x y false).1.toNat = (x.toNat + y.toNat) % 2 ^ w :=
  toNat_addWithCarry x y false

theorem toNat_addWithCarry_not_true :
    (addWithCarry x (~~~y) true).1.toNat = (x.toNat + 2 ^ w - y.toNat) % 2 ^ w := by
  rw [toNat_addWithCarry, toNat_add_not_add_one, Nat.add_sub_assoc y.isLt.le]

/-- The four flags of any `AddWithCarry` call, read off its result as a number and the carry and the signed sum of
its operands. -/
theorem addWithCarry_flags_eq {cin : Bool} {r : Nat} {carry : Prop} [Decidable carry] {ssum : Int}
    (hr : (addWithCarry x y cin).1.toNat = r) (hcarry : (addWithCarry x y cin).2.c = true ↔ carry)
    (hssum : x.toInt + y.toInt + cin.toNat = ssum) :
    (addWithCarry x y cin).2 =
      ⟨decide (2 ^ (w - 1) ≤ r), decide (r = 0), decide carry, decide (ssum ≠ signedNat w r)⟩ := by
  subst hr hssum
  have hn : (addWithCarry x y cin).2.n = decide (2 ^ (w - 1) ≤ (addWithCarry x y cin).1.toNat) :=
    BitVec.msb_eq_decide _
  have hz : (addWithCarry x y cin).2.z = decide ((addWithCarry x y cin).1.toNat = 0) := by
    rw [Bool.eq_iff_iff, decide_eq_true_iff, addWithCarry_z, BitVec.toNat_eq, BitVec.toNat_zero]
  have hc : (addWithCarry x y cin).2.c = decide carry := by rw [Bool.eq_iff_iff, decide_eq_true_iff, hcarry]
  have hv : (addWithCarry x y cin).2.v =
      decide (x.toInt + y.toInt + cin.toNat ≠ signedNat w (addWithCarry x y cin).1.toNat) := by
    rw [Bool.eq_iff_iff, decide_eq_true_iff, ← Bool.not_eq_false, addWithCarry_v_eq_false, toInt_eq_signedNat,
      ne_comm]
  rw [← hn, ← hz, ← hc, ← hv]

theorem addWithCarry_false_flags : (addWithCarry x y false).2 = sumFlags w x.toNat y.toNat := by
  refine addWithCarry_flags_eq x y (toNat_addWithCarry_false x y) (addWithCarry_c_eq_true x y false) ?_
  rw [← toInt_eq_signedNat, ← toInt_eq_signedNat]
  exact Int.add_zero _

/-- The signed reading of the complement; at width 0 there is no `-1` to read. -/
theorem toInt_not_eq (hw : 0 < w) : (~~~y).toInt = -1 - y.toInt := by
  obtain ⟨m, rfl⟩ := Nat.exists_eq_add_of_lt hw
  have hy := y.isLt
  simp only [BitVec.toInt_eq_toNat_cond, BitVec.toNat_not]
  rw [Nat.pow_succ] at hy ⊢
  split <;> split <;> omega

/-- A difference of two numbers below `2^w` wraps to 0 only when they are equal. -/
theorem sub_mod_eq_zero_iff {a b : Nat} (ha : a < 2 ^ w) (hb : b < 2 ^ w) :
    (a + 2 ^ w - b) % 2 ^ w = 0 ↔ a = b := by
  rcases Nat.lt_or_ge a b with hlt | hge
  · rw [Nat.mod_eq_of_lt (by omega)]; omega
  · have hwrap : a + 2 ^ w - b = a - b + 2 ^ w := by omega
    rw [hwrap, Nat.add_mod_right, Nat.mod_eq_of_lt (by omega)]; omega

theorem addWithCarry_not_true_flags (hw : 0 < w) :
    (addWithCarry x (~~~y) true).2 = differenceFlags w x.toNat y.toNat := by
  have hssum : x.toInt + (~~~y).toInt + true.toNat = signedNat w x.toNat - signedNat w y.toNat := by
    rw [toInt_not_eq y hw, ← toInt_eq_signedNat, ← toInt_eq_signedNat, Bool.toNat_true]; omega
  rw [addWithCarry_flags_eq x (~~~y) (toNat_addWithCarry_not_true x y) (addWithCarry_not_true_c x y) hssum,
    differenceFlags]
  simp only [sub_mod_eq_zero_iff x.isLt y.isLt]

end AddWithCarry

/-! ## The state after a register write, in the words of the statements -/

/-- A narrow value extended to a register is the word of its number. -/
theorem zext_64_eq_ofNat {w : Nat} (v : BitVec w) (h : w ≤ 64) : zext 64 v h = BitVec.ofNat 64 v.toNat :=
  (BitVec.ofNat_toNat 64 v).symm

theorem next_writeX_advance (s : State) (rd : RegIdx) (v : Word) :
    (.next (s.writeX rd v).advance : Result) = .next { s.writeX rd v with pc := wordPlus s.pc 4 } := by
  rw [next_advance, State.writeX_pc]

theorem next_writeXSP_advance (s : State) (rd : RegIdx) (v : Word) :
    (.next (s.writeXSP rd v).advance : Result) = .next { s.writeXSP rd v with pc := wordPlus s.pc 4 } := by
  rw [next_advance, State.writeXSP_pc]

theorem next_setFlags_writeX_advance (s : State) (f : Flags) (rd : RegIdx) (v : Word) :
    (.next ((s.setFlags f).writeX rd v).advance : Result) =
      .next { s.writeX rd v with pc := wordPlus s.pc 4, flags := f } := by
  rw [next_writeX_advance, State.writeX_setFlags]; rfl

/-! ## ADD, ADDS, SUB and SUBS (R260 to R266) -/

section AddSubImmediate
variable (sf sh : BitVec 1) (imm12 : BitVec 12) (rn rd : RegIdx) (s : State)

theorem toNat_addSubImmediate : (addSubImmediate sf sh imm12).toNat = immNat sh imm12 := by
  unfold addSubImmediate immNat
  obtain rfl | rfl := BitVec.eq_zero_or_eq_one sh
  · rw [if_pos rfl, if_neg (by decide), toNat_zext, Nat.mul_one]
  · rw [if_neg (by decide), if_pos rfl, toNat_zext, toNat_concat, BitVec.toNat_zero, Nat.add_zero]; rfl

theorem toNat_gprSp_datasize : (s.gprSp (datasize sf) rn (datasize_le_64 sf)).toNat = xspNat sf rn s :=
  BitVec.toNat_setWidth ..

theorem toNat_addSubImmResult_add : (addSubImmResult sf false sh imm12 rn s).1.toNat =
    (xspNat sf rn s + immNat sh imm12) % 2 ^ widthOf sf := by
  rw [← toNat_gprSp_datasize, ← toNat_addSubImmediate sf]
  exact toNat_addWithCarry_false _ _

theorem toNat_addSubImmResult_sub : (addSubImmResult sf true sh imm12 rn s).1.toNat =
    (xspNat sf rn s + 2 ^ widthOf sf - immNat sh imm12) % 2 ^ widthOf sf := by
  rw [← toNat_gprSp_datasize, ← toNat_addSubImmediate sf]
  exact toNat_addWithCarry_not_true _ _

theorem addSubImmResult_add_flags : (addSubImmResult sf false sh imm12 rn s).2 =
    sumFlags (widthOf sf) (xspNat sf rn s) (immNat sh imm12) := by
  rw [← toNat_gprSp_datasize, ← toNat_addSubImmediate sf]
  exact addWithCarry_false_flags _ _

theorem addSubImmResult_sub_flags : (addSubImmResult sf true sh imm12 rn s).2 =
    differenceFlags (widthOf sf) (xspNat sf rn s) (immNat sh imm12) := by
  rw [← toNat_gprSp_datasize, ← toNat_addSubImmediate sf]
  exact addWithCarry_not_true_flags _ _ (le_datasize (by decide) sf)

theorem addSubImm_eq (sub : Bool) : addSubImm sub sf sh imm12 rn rd s =
    .next { s.writeXSP rd (BitVec.ofNat 64 (addSubImmResult sf sub sh imm12 rn s).1.toNat)
            with pc := wordPlus s.pc 4 } := by
  rw [addSubImm, State.setGprSp, zext_64_eq_ofNat, next_writeXSP_advance]

theorem addSubImmFlags_eq (sub : Bool) : addSubImmFlags sub sf sh imm12 rn rd s =
    .next { s.writeX rd (BitVec.ofNat 64 (addSubImmResult sf sub sh imm12 rn s).1.toNat)
            with pc := wordPlus s.pc 4, flags := (addSubImmResult sf sub sh imm12 rn s).2 } := by
  rw [addSubImmFlags, State.setGpr, zext_64_eq_ofNat, next_setFlags_writeX_advance]

theorem exec_addImm : exec (.addImm sf sh imm12 rn rd) s = addSubImm false sf sh imm12 rn rd s := by rfl

theorem exec_subImm : exec (.subImm sf sh imm12 rn rd) s = addSubImm true sf sh imm12 rn rd s := by rfl

theorem exec_addsImm : exec (.addsImm sf sh imm12 rn rd) s = addSubImmFlags false sf sh imm12 rn rd s := by rfl

theorem exec_subsImm : exec (.subsImm sf sh imm12 rn rd) s = addSubImmFlags true sf sh imm12 rn rd s := by rfl

end AddSubImmediate

/-- Settles O40, by the number of the one `AddWithCarry` result each instruction writes. -/
theorem addSubImmediateValues : Obligations.AddSubImmediateValues := by
  intro sf sh imm12 rn rd s
  refine ⟨?add, ?sub⟩
  case add => rw [exec_addImm, addSubImm_eq, toNat_addSubImmResult_add]
  case sub => rw [exec_subImm, addSubImm_eq, toNat_addSubImmResult_sub]

/-- Settles O41, by the number and the flags of the same `AddWithCarry` result. -/
theorem addSubImmediateFlagValues : Obligations.AddSubImmediateFlagValues := by
  intro sf sh imm12 rn rd s
  refine ⟨?adds, ?subs⟩
  case adds => rw [exec_addsImm, addSubImmFlags_eq, toNat_addSubImmResult_add, addSubImmResult_add_flags]
  case subs => rw [exec_subsImm, addSubImmFlags_eq, toNat_addSubImmResult_sub, addSubImmResult_sub_flags]

/-! ## MOVN, MOVZ and MOVK (R267 to R270) -/

section MoveWide
variable {sf : BitVec 1} {hw : BitVec 2}

/-- The sixteen bits at `16 * hw` are those whose index divided by 16 is `hw`: they come from the immediate, the
others from the old value. -/
theorem getLsbD_insert16 (v : BitVec (datasize sf)) (hw : BitVec 2) (imm16 : BitVec 16) {k : Nat}
    (hk : k < datasize sf) : (insert16 v (movePos hw) imm16).getLsbD k =
      if k / 16 = hw.toNat then imm16.getLsbD (k % 16) else v.getLsbD k := by
  have hones : (0xFFFF#16) = BitVec.allOnes 16 := rfl
  simp only [insert16, movePos, lsl, zext, hones, BitVec.getLsbD_or, BitVec.getLsbD_and, BitVec.getLsbD_not,
    BitVec.getLsbD_shiftLeft, BitVec.getLsbD_setWidth, BitVec.getLsbD_allOnes, hk, decide_true, Bool.true_and]
  split
  · next hin =>
    have hge : ¬ k < 16 * hw.toNat := by omega
    have hpos : k - 16 * hw.toNat = k % 16 := by omega
    have hlt : k % 16 < datasize sf := (Nat.mod_le k 16).trans_lt hk
    simp [hge, hpos, hlt, Nat.mod_lt]
  · next hout =>
    obtain hlow | hhigh : k < 16 * hw.toNat ∨ 16 ≤ k - 16 * hw.toNat := by omega
    · simp [hlow]
    · simp [Nat.not_lt.mpr hhigh, BitVec.getLsbD_of_ge imm16 _ hhigh]

/-- A position that is not reserved lies inside the operand. -/
theorem lt_widthOf_of_div_eq {k : Nat} (hok : sf = 1#1 ∨ hw.toNat < 2) (hk : k < 64) (hdiv : k / 16 = hw.toNat) :
    k < widthOf sf := by
  obtain rfl | hlt := hok
  · exact hk
  · unfold widthOf; split <;> omega

/-- With the position not reserved, a move wide whose value has the bits `g` below the operand width writes these
bits, and 0 above. -/
theorem moveWide_writes {g : Nat → Bool} (hok : sf = 1#1 ∨ hw.toNat < 2) {value : BitVec (datasize sf)}
    (hg : ∀ k, k < datasize sf → value.getLsbD k = g k) (rd : RegIdx) (s : State) :
    ∃ r : Word, moveWide sf value hw rd s = .next { s.writeX rd r with pc := wordPlus s.pc 4 } ∧
      ∀ k, k < 64 → r.getLsbD k = (decide (k < widthOf sf) && g k) := by
  refine ⟨zext 64 value (datasize_le_64 sf), ?state, fun k hk => ?bits⟩
  case state =>
    have hnot : ¬ moveWideHwReserved sf hw = true := by
      rw [moveWideHwReserved_iff]
      rintro ⟨rfl, hge⟩
      exact hok.elim (by decide) (Nat.not_lt.mpr hge)
    rw [moveWide, if_neg hnot, State.setGpr, next_writeX_advance]
  case bits =>
    rw [zext, BitVec.getLsbD_setWidth, decide_eq_true hk, Bool.true_and]
    by_cases hlow : k < widthOf sf
    · rw [hg k hlow, decide_eq_true hlow, Bool.true_and]
    · rw [decide_eq_false hlow, Bool.false_and, BitVec.getLsbD_of_ge value k (Nat.le_of_not_lt hlow)]

variable (sf hw) (imm16 : BitVec 16) (rd : RegIdx) (s : State)

theorem exec_movn : exec (.movn sf hw imm16 rd) s =
    moveWide sf (~~~(insert16 (0#(datasize sf)) (movePos hw) imm16)) hw rd s := by rfl

theorem exec_movz : exec (.movz sf hw imm16 rd) s =
    moveWide sf (insert16 (0#(datasize sf)) (movePos hw) imm16) hw rd s := by rfl

theorem exec_movk : exec (.movk sf hw imm16 rd) s =
    moveWide sf (insert16 (s.gpr (datasize sf) rd (datasize_le_64 sf)) (movePos hw) imm16) hw rd s := by rfl

end MoveWide

/-- Settles O42, by the bits of the insertion; those of MOVZ need no bound, since the insertion lies inside the
operand. -/
theorem moveWideBits : Obligations.MoveWideBits := by
  intro sf hw imm16 rd s hok
  refine ⟨?movn, ?movz, ?movk⟩
  case movn =>
    rw [exec_movn]
    refine moveWide_writes hok (fun k hk => ?_) rd s
    rw [BitVec.getLsbD_not, decide_eq_true hk, Bool.true_and, getLsbD_insert16 _ _ _ hk, BitVec.getLsbD_zero]
  case movz =>
    rw [exec_movz]
    obtain ⟨r, hr, hbits⟩ := moveWide_writes hok (fun k hk => getLsbD_insert16 0#_ hw imm16 hk) rd s
    refine ⟨r, hr, fun k hk => (hbits k hk).trans ?_⟩
    rw [BitVec.getLsbD_zero]
    split
    · next hin => rw [decide_eq_true (lt_widthOf_of_div_eq hok hk hin), Bool.true_and]
    · exact Bool.and_false _
  case movk =>
    rw [exec_movk]
    refine moveWide_writes hok (fun k hk => ?_) rd s
    rw [getLsbD_insert16 _ _ _ hk, State.gpr, BitVec.getLsbD_setWidth, decide_eq_true hk, Bool.true_and]

/-! ## ADR and ADRP (R271 to R273) -/

section PcRelative
variable (immlo : BitVec 2) (immhi : BitVec 19) (rd : RegIdx) (s : State)

theorem toInt_concat_immhi_immlo : (concat immhi immlo).toInt = 4 * immhi.toInt + immlo.toNat :=
  BitVec.toInt_append

theorem add_adrOffset (a : Word) : a + adrOffset immlo immhi = wordPlus a (4 * immhi.toInt + immlo.toNat) := by
  rw [← toInt_concat_immhi_immlo, wordPlus_eq]; rfl

theorem add_adrpOffset (a : Word) :
    a + adrpOffset immlo immhi = wordPlus a (4096 * (4 * immhi.toInt + immlo.toNat)) := by
  have hval : (concat (concat immhi immlo) 0#12).toInt = 4096 * (concat immhi immlo).toInt :=
    BitVec.toInt_append_zero
  rw [← toInt_concat_immhi_immlo, ← hval, wordPlus_eq]; rfl

theorem adrpBase_eq (pc : Word) : adrpBase pc = BitVec.ofNat 64 (pc.toNat / 4096 * 4096) := by
  have hpc := pc.isLt
  apply BitVec.eq_of_toNat_eq
  rw [adrpBase, toNat_concat, toNat_slice, BitVec.toNat_zero, BitVec.toNat_ofNat]
  omega

theorem exec_adr : exec (.adr immlo immhi rd) s = .next (s.writeX rd (s.pc + adrOffset immlo immhi)).advance := by
  rfl

theorem exec_adrp : exec (.adrp immlo immhi rd) s =
    .next (s.writeX rd (adrpBase s.pc + adrpOffset immlo immhi)).advance := by rfl

end PcRelative

/-- Settles O43, by the base and the signed offset each instruction adds. -/
theorem pcRelativeAddresses : Obligations.PcRelativeAddresses := by
  intro immlo immhi rd s
  refine ⟨?adr, ?adrp⟩
  case adr => rw [exec_adr, next_writeX_advance, add_adrOffset]
  case adrp => rw [exec_adrp, next_writeX_advance, adrpBase_eq, add_adrpOffset]

end Sys2Proof.Machine
end

section
/-! SUPPORT and PROOFS. Data processing, shifted register (spec/45_dp_register.md R280 to R296): the shifted operand as
a number, the checks that unreserved fields pass, and the result and flags of the two classes. -/

namespace Sys2Proof.Machine

/-! ## ShiftReg as a number (R14, R15, R22) -/

section ShiftReg
variable {w k : Nat} (v : BitVec w)

/-- What the right shift keeps lies below the bits that the left shift brings back. -/
theorem lsr_and_lsl_eq_zero (hk : k < w) : lsr v k &&& lsl v (w - k) = 0#w := by
  apply BitVec.eq_of_getLsbD_eq
  intro i hi
  rw [lsr, lsl, BitVec.getLsbD_and, BitVec.getLsbD_ushiftRight, BitVec.getLsbD_shiftLeft, BitVec.getLsbD_zero]
  by_cases hlow : i < w - k
  · simp [hlow]
  · rw [BitVec.getLsbD_of_ge v (k + i) (by omega), Bool.false_and]

/-- The two parts of a rotate do not overlap, so their disjunction is their sum. -/
theorem toNat_ror (hk : k < w) : (ror v k).toNat = (v.toNat / 2 ^ k + v.toNat * 2 ^ (w - k)) % 2 ^ w := by
  rw [ror, Nat.mod_eq_of_lt hk]
  split
  · next hzero => rw [hzero, pow_zero, Nat.div_one, Nat.sub_zero, Nat.add_mul_mod_self_right, Nat.mod_eq_of_lt v.isLt]
  · rw [← BitVec.add_eq_or_of_and_eq_zero _ _ (lsr_and_lsl_eq_zero v hk), BitVec.toNat_add, toNat_lsr, toNat_lsl,
      Nat.add_mod_mod]

theorem toNat_asr (k : Nat) : (asr v k).toNat = (signedNat w v.toNat / 2 ^ k % 2 ^ w).toNat := by
  rw [asr_eq_ofInt, BitVec.toNat_ofInt, toInt_eq_signedNat, Nat.cast_pow, Nat.cast_ofNat]

theorem shiftType_cases (type : BitVec 2) : type = 0#2 ∨ type = 1#2 ∨ type = 2#2 ∨ type = 3#2 := by
  revert type; decide

theorem toNat_shiftReg (type : BitVec 2) (hk : k < w) : (shiftReg v type k).toNat = shiftedNat w type k v.toNat := by
  obtain rfl | rfl | rfl | rfl := shiftType_cases type
  · exact toNat_lsl v k
  · exact toNat_lsr v k
  · exact toNat_asr v k
  · exact toNat_ror v hk

end ShiftReg

/-! ## The operands (R281, R282, R288) -/

section ShiftedRegister
variable {sf : BitVec 1} {shift : BitVec 2} {imm6 : BitVec 6}

theorem toNat_shiftedOperand (hamount : imm6.toNat < widthOf sf) (rm : RegIdx) (s : State) :
    (shiftedOperand sf s shift rm imm6).toNat = operandNat sf shift rm imm6 s := by
  rw [operandNat, ← toNat_gpr_datasize]
  exact toNat_shiftReg _ shift hamount

theorem toNat_logicalOperand_plain (hamount : imm6.toNat < widthOf sf) (rm : RegIdx) (s : State) :
    (logicalOperand sf false s shift rm imm6).toNat = operandNat sf shift rm imm6 s :=
  toNat_shiftedOperand hamount rm s

theorem toNat_logicalOperand_inverted (hamount : imm6.toNat < widthOf sf) (rm : RegIdx) (s : State) :
    (logicalOperand sf true s shift rm imm6).toNat =
      complementNat (widthOf sf) (operandNat sf shift rm imm6 s) := by
  rw [← toNat_shiftedOperand hamount]
  exact BitVec.toNat_not

/-! ## The checks that unreserved fields pass (R280, R287) -/

theorem not_amountReserved (hamount : imm6.toNat < widthOf sf) : ¬ amountReserved sf imm6 = true := by
  rw [amountReserved_iff]
  rintro ⟨rfl, hge⟩
  exact absurd hamount (Nat.not_lt.mpr hge)

theorem checkAddSub_of_unreserved (hshift : shift ≠ 3#2) (hamount : imm6.toNat < widthOf sf) (s : State)
    (body : Result) : checkAddSub sf shift imm6 s body = body := by
  rw [checkAddSub, if_neg (mt addSubShiftReserved_iff.mp hshift), if_neg (not_amountReserved hamount)]

theorem checkLogical_of_unreserved (hamount : imm6.toNat < widthOf sf) (s : State) (body : Result) :
    checkLogical sf imm6 s body = body := by
  rw [checkLogical, if_neg (not_amountReserved hamount)]

/-! ## ADD, ADDS, SUB and SUBS (R283 to R286) -/

section AddSub
variable (hshift : shift ≠ 3#2) (hamount : imm6.toNat < widthOf sf) (rm rn rd : RegIdx) (s : State)

include hamount

theorem toNat_addSubShiftedResult_add : (addSubShiftedResult sf false shift rm imm6 rn s).1.toNat =
    (xNat sf rn s + operandNat sf shift rm imm6 s) % 2 ^ widthOf sf := by
  rw [← toNat_gpr_datasize, ← toNat_shiftedOperand hamount]
  exact toNat_addWithCarry_false _ _

theorem toNat_addSubShiftedResult_sub : (addSubShiftedResult sf true shift rm imm6 rn s).1.toNat =
    (xNat sf rn s + 2 ^ widthOf sf - operandNat sf shift rm imm6 s) % 2 ^ widthOf sf := by
  rw [← toNat_gpr_datasize, ← toNat_shiftedOperand hamount]
  exact toNat_addWithCarry_not_true _ _

theorem addSubShiftedResult_add_flags : (addSubShiftedResult sf false shift rm imm6 rn s).2 =
    sumFlags (widthOf sf) (xNat sf rn s) (operandNat sf shift rm imm6 s) := by
  rw [← toNat_gpr_datasize, ← toNat_shiftedOperand hamount]
  exact addWithCarry_false_flags _ _

theorem addSubShiftedResult_sub_flags : (addSubShiftedResult sf true shift rm imm6 rn s).2 =
    differenceFlags (widthOf sf) (xNat sf rn s) (operandNat sf shift rm imm6 s) := by
  rw [← toNat_gpr_datasize, ← toNat_shiftedOperand hamount]
  exact addWithCarry_not_true_flags _ _ (le_datasize (by decide) sf)

include hshift

theorem addSubShifted_eq (sub : Bool) : addSubShifted sub sf shift rm imm6 rn rd s =
    .next { s.writeX rd (BitVec.ofNat 64 (addSubShiftedResult sf sub shift rm imm6 rn s).1.toNat)
            with pc := wordPlus s.pc 4 } := by
  rw [addSubShifted, checkAddSub_of_unreserved hshift hamount, State.setGpr, zext_64_eq_ofNat, next_writeX_advance]

theorem addSubShiftedFlags_eq (sub : Bool) : addSubShiftedFlags sub sf shift rm imm6 rn rd s =
    .next { s.writeX rd (BitVec.ofNat 64 (addSubShiftedResult sf sub shift rm imm6 rn s).1.toNat)
            with pc := wordPlus s.pc 4, flags := (addSubShiftedResult sf sub shift rm imm6 rn s).2 } := by
  rw [addSubShiftedFlags, checkAddSub_of_unreserved hshift hamount, State.setGpr, zext_64_eq_ofNat,
    next_setFlags_writeX_advance]

end AddSub

/-! ## The logical instructions (R288 to R296) -/

section Logical
variable (hamount : imm6.toNat < widthOf sf) (rm rn rd : RegIdx) (s : State)

theorem logicalFlags_eq {n : Nat} (r : BitVec n) : logicalFlags r = bitwiseFlags n r.toNat := by
  have hzero : (r == 0#n) = decide (r.toNat = 0) := by
    rw [Bool.eq_iff_iff, beq_iff_eq, decide_eq_true_iff, BitVec.toNat_eq, BitVec.toNat_zero]
  rw [logicalFlags, bitwiseFlags, BitVec.msb_eq_decide, hzero]

include hamount

/-- A logical instruction whose operation acts on numbers as `g` writes `g` of the two operands. -/
theorem logicalShifted_eq {f : {w : Nat} → BitVec w → BitVec w → BitVec w} {g : Nat → Nat → Nat}
    (hfg : ∀ {w : Nat} (a b : BitVec w), (f a b).toNat = g a.toNat b.toNat) (invert : Bool) :
    logicalShifted f invert sf shift rm imm6 rn rd s =
      .next { s.writeX rd (BitVec.ofNat 64 (g (xNat sf rn s) (logicalOperand sf invert s shift rm imm6).toNat))
              with pc := wordPlus s.pc 4 } := by
  rw [logicalShifted, checkLogical_of_unreserved hamount, State.setGpr, zext_64_eq_ofNat, next_writeX_advance, hfg,
    toNat_gpr_datasize]

theorem andShiftedFlags_eq (invert : Bool) : andShiftedFlags invert sf shift rm imm6 rn rd s =
    .next { s.writeX rd (BitVec.ofNat 64 (xNat sf rn s &&& (logicalOperand sf invert s shift rm imm6).toNat))
            with
            pc := wordPlus s.pc 4
            flags := bitwiseFlags (widthOf sf)
              (xNat sf rn s &&& (logicalOperand sf invert s shift rm imm6).toNat) } := by
  have hval : (andShiftedResult sf invert shift rm imm6 rn s).toNat =
      xNat sf rn s &&& (logicalOperand sf invert s shift rm imm6).toNat := by
    rw [andShiftedResult, BitVec.toNat_and, toNat_gpr_datasize]
  rw [andShiftedFlags, checkLogical_of_unreserved hamount, State.setGpr, zext_64_eq_ofNat,
    next_setFlags_writeX_advance, logicalFlags_eq, hval]
  rfl

end Logical

/-! ## The meaning of each instruction (R283 to R286, R289 to R296) -/

section Exec
variable (sf : BitVec 1) (shift : BitVec 2) (rm : RegIdx) (imm6 : BitVec 6) (rn rd : RegIdx) (s : State)

theorem exec_addShifted :
    exec (.addShifted sf shift rm imm6 rn rd) s = addSubShifted false sf shift rm imm6 rn rd s := by rfl

theorem exec_subShifted :
    exec (.subShifted sf shift rm imm6 rn rd) s = addSubShifted true sf shift rm imm6 rn rd s := by rfl

theorem exec_addsShifted :
    exec (.addsShifted sf shift rm imm6 rn rd) s = addSubShiftedFlags false sf shift rm imm6 rn rd s := by rfl

theorem exec_subsShifted :
    exec (.subsShifted sf shift rm imm6 rn rd) s = addSubShiftedFlags true sf shift rm imm6 rn rd s := by rfl

theorem exec_andShifted :
    exec (.andShifted sf shift rm imm6 rn rd) s = logicalShifted (· &&& ·) false sf shift rm imm6 rn rd s := by rfl

theorem exec_bicShifted :
    exec (.bicShifted sf shift rm imm6 rn rd) s = logicalShifted (· &&& ·) true sf shift rm imm6 rn rd s := by rfl

theorem exec_orrShifted :
    exec (.orrShifted sf shift rm imm6 rn rd) s = logicalShifted (· ||| ·) false sf shift rm imm6 rn rd s := by rfl

theorem exec_ornShifted :
    exec (.ornShifted sf shift rm imm6 rn rd) s = logicalShifted (· ||| ·) true sf shift rm imm6 rn rd s := by rfl

theorem exec_eorShifted :
    exec (.eorShifted sf shift rm imm6 rn rd) s = logicalShifted (· ^^^ ·) false sf shift rm imm6 rn rd s := by rfl

theorem exec_eonShifted :
    exec (.eonShifted sf shift rm imm6 rn rd) s = logicalShifted (· ^^^ ·) true sf shift rm imm6 rn rd s := by rfl

theorem exec_andsShifted :
    exec (.andsShifted sf shift rm imm6 rn rd) s = andShiftedFlags false sf shift rm imm6 rn rd s := by rfl

theorem exec_bicsShifted :
    exec (.bicsShifted sf shift rm imm6 rn rd) s = andShiftedFlags true sf shift rm imm6 rn rd s := by rfl

end Exec

end ShiftedRegister

/-! ## The statements -/

/-- Settles O44, by the number of the one `AddWithCarry` result each instruction writes. -/
theorem addSubShiftedValues : Obligations.AddSubShiftedValues := by
  intro sf shift rm imm6 rn rd s hshift hamount
  refine ⟨?add, ?sub⟩
  case add => rw [exec_addShifted, addSubShifted_eq hshift hamount, toNat_addSubShiftedResult_add hamount]
  case sub => rw [exec_subShifted, addSubShifted_eq hshift hamount, toNat_addSubShiftedResult_sub hamount]

/-- Settles O45, by the number and the flags of the same `AddWithCarry` result. -/
theorem addSubShiftedFlagValues : Obligations.AddSubShiftedFlagValues := by
  intro sf shift rm imm6 rn rd s hshift hamount
  refine ⟨?adds, ?subs⟩
  case adds =>
    rw [exec_addsShifted, addSubShiftedFlags_eq hshift hamount, toNat_addSubShiftedResult_add hamount,
      addSubShiftedResult_add_flags hamount]
  case subs =>
    rw [exec_subsShifted, addSubShiftedFlags_eq hshift hamount, toNat_addSubShiftedResult_sub hamount,
      addSubShiftedResult_sub_flags hamount]

/-- Settles O46: AND, ORR and EOR of vectors are those of their numbers, and the operand is the shifted one or its
complement. -/
theorem logicalShiftedValues : Obligations.LogicalShiftedValues := by
  intro sf shift rm imm6 rn rd s hamount
  have hand := logicalShifted_eq (shift := shift) hamount rm rn rd s BitVec.toNat_and
  have horr := logicalShifted_eq (shift := shift) hamount rm rn rd s BitVec.toNat_or
  have heor := logicalShifted_eq (shift := shift) hamount rm rn rd s BitVec.toNat_xor
  refine ⟨?and, ?bic, ?orr, ?orn, ?eor, ?eon⟩
  case and => rw [exec_andShifted, hand, toNat_logicalOperand_plain hamount]
  case bic => rw [exec_bicShifted, hand, toNat_logicalOperand_inverted hamount]
  case orr => rw [exec_orrShifted, horr, toNat_logicalOperand_plain hamount]
  case orn => rw [exec_ornShifted, horr, toNat_logicalOperand_inverted hamount]
  case eor => rw [exec_eorShifted, heor, toNat_logicalOperand_plain hamount]
  case eon => rw [exec_eonShifted, heor, toNat_logicalOperand_inverted hamount]

/-- Settles O47, by the conjunction both the register and the flags are read off. -/
theorem logicalShiftedFlagValues : Obligations.LogicalShiftedFlagValues := by
  intro sf shift rm imm6 rn rd s hamount
  refine ⟨?ands, ?bics⟩
  case ands => rw [exec_andsShifted, andShiftedFlags_eq hamount, toNat_logicalOperand_plain hamount]
  case bics => rw [exec_bicsShifted, andShiftedFlags_eq hamount, toNat_logicalOperand_inverted hamount]

end Sys2Proof.Machine
end

section
/-! SUPPORT and PROOFS. Faults (spec/60_exceptions.md R300 to R312): a faulted state is terminal, a faulting step
changes the error slot alone, and an instruction answers a next state whichever of its checks fails. -/

namespace Sys2Proof

open Machine

/-! ## What a step does where it cannot execute (R301 to R303, R308) -/

theorem isFaulted_iff {s : State} : isFaulted s = true ↔ s.err ≠ .none := bne_iff_ne

theorem step_of_reject {s : State} {site : FaultSite} (herr : s.err = .none) (hd : fetchDecode s = .reject site) :
    step s = raise site s := by
  simp [step, isFaulted, herr, hd]

/-- On a misaligned pc the test of R302 is its parameter. -/
theorem pcMisaligned_of_misaligned {s : State} (h : s.pc.toNat % 4 ≠ 0) : pcMisaligned s = Config.pcAlignCheck := by
  have hlow : s.pc.extractLsb' 0 2 ≠ 0#2 := fun hz => h (by simpa using congrArg BitVec.toNat hz)
  simp [pcMisaligned, hlow]

theorem fetchDecode_of_misaligned {s : State} (h : pcMisaligned s = true) : fetchDecode s = .reject .pcAlign :=
  if_pos h

theorem fetchDecode_of_not_misaligned {s : State} (h : ¬ pcMisaligned s = true) :
    fetchDecode s = decode (s.memRead s.pc 4) :=
  if_neg h

/-- Settles O22: a step that completes keeps the error slot, which was empty, so that one that sets it faulted. -/
theorem faultingStepChangesOnlyTheErrorSlot : Obligations.FaultingStepChangesOnlyTheErrorSlot := by
  intro s t h hset
  obtain ⟨herr, ⟨site, rfl⟩ | ⟨i, -, hc⟩⟩ := step_faulted_or_completed h
  · exact ⟨herr, rfl⟩
  · exact absurd (hc.err.trans herr) hset

/-- Settles O24: the test of the error slot comes first, in a step as in a run. -/
theorem noStepFromFaultedState : Obligations.NoStepFromFaultedState := by
  intro s h
  have hf : isFaulted s = true := isFaulted_iff.mpr h
  refine ⟨if_pos hf, fun halt fuel => ?_⟩
  cases fuel with
  | zero => rfl
  | succ fuel => exact if_pos hf

/-- Settles O30: the word has no class, so that the decoder rejects it by the site of cause 2. -/
theorem unsupportedWordFaultsUnimplemented : Obligations.UnsupportedWordFaultsUnimplemented := by
  intro s herr hpc hnone
  have hclass := decodeClass_of_fits_none hnone
  have hfetch : fetchDecode s = .reject .unsupportedWord := by
    rw [fetchDecode_of_aligned hpc, decode, State.wordAt, hclass, selectInstr]
  exact ⟨hclass, step_of_reject herr hfetch⟩

/-- Settles O31: the pc test is the parameter, and where it passes the step is that of the word at pc. -/
theorem misalignedPcFaultsBeforeTheFetch : Obligations.MisalignedPcFaultsBeforeTheFetch := by
  intro s herr hpc
  have htest := pcMisaligned_of_misaligned hpc
  split
  · next hon => exact (step_of_reject herr (fetchDecode_of_misaligned (htest.trans hon))).trans (raise_of_illegal rfl s)
  · next hoff =>
    have hfetch := fetchDecode_of_not_misaligned (htest ▸ hoff)
    cases hd : decode (s.memRead s.pc 4) with
    | instr i => exact step_of_fetchDecode herr (hfetch.trans hd)
    | reject site => exact step_of_reject herr (hfetch.trans hd)

/-! ## The checks of an instruction, all of them -/

/-- The result is a next state whose error slot is as before when `ok` holds, and Illegal when it does not: every
check made by the meaning of an instruction raises Illegal (R305, causes 4, 11, 12 and 14 to 16). -/
def FaultsUnless (s : State) (ok : Bool) (r : Result) : Prop :=
  ∃ t, r = .next t ∧ t.err.kind = if ok then s.err.kind else some .illegal

theorem kind_errOf (site : FaultSite) : (errOf site).kind = some (faultKind site) := by
  cases site <;> rfl

namespace FaultsUnless

variable {s : State}

theorem next {t : State} (h : t.err = s.err) : FaultsUnless s true (.next t) := ⟨t, rfl, congrArg ErrSlot.kind h⟩

/-- A check ahead of the rest. -/
theorem checked {c ok : Bool} {site : FaultSite} (hsite : faultKind site = .illegal) {r : Result}
    (hr : FaultsUnless s ok r) : FaultsUnless s (!c && ok) (if c then raise site s else r) := by
  cases c with
  | false => exact hr
  | true => exact ⟨s.faulted site, rfl, (kind_errOf site).trans (congrArg some hsite)⟩

theorem addVector (q : BitVec 1) (size : BitVec 2) (rm rn rd : RegIdx) :
    FaultsUnless s (!addVectorReserved q size && true) (execAddVector q size rm rn rd s) :=
  checked rfl (next rfl)

theorem moveWide (sf : BitVec 1) (value : BitVec (datasize sf)) (hw : BitVec 2) (rd : RegIdx) :
    FaultsUnless s (!moveWideHwReserved sf hw && true) (moveWide sf value hw rd s) :=
  checked rfl (next (by simp))

theorem checkAddSub (sf : BitVec 1) (shift : BitVec 2) (imm6 : BitVec 6) {r : Result} (hr : FaultsUnless s true r) :
    FaultsUnless s (!(addSubShiftReserved shift || amountReserved sf imm6) && true) (checkAddSub sf shift imm6 s r) := by
  rw [Bool.not_or, Bool.and_assoc]
  exact checked rfl (checked rfl hr)

theorem checkLogical (sf : BitVec 1) (imm6 : BitVec 6) {r : Result} (hr : FaultsUnless s true r) :
    FaultsUnless s (!amountReserved sf imm6 && true) (checkLogical sf imm6 s r) :=
  checked rfl hr

theorem branchIf (taken : Bool) (offset : Word) : FaultsUnless s true (branchIf taken offset s) := by
  cases taken <;> exact next rfl

theorem ldstStep (scale : Nat) (form : AddrForm) (rn : RegIdx) {access : Word → State → State}
    (h : ∀ a, (access a s).err = s.err) : FaultsUnless s (!spMisaligned rn s) (ldstStep scale form rn access s) := by
  rw [← Bool.and_true (!_)]
  refine checked rfl (next ?_)
  obtain ⟨-, hback⟩ | ⟨-, w, -, hback⟩ := writeBack_cases scale form rn s (access (ldstAddress scale form rn s).1 s)
  · rw [hback, State.advance_err, h]
  · rw [hback, State.advance_err, State.writeXSP_err, h]

theorem storeGpr (scale : Nat) (form : AddrForm) (rn rt : RegIdx) (h : scale ≤ 3) :
    FaultsUnless s (!(isWriteback form && writebackConflict rn rt) && !spMisaligned rn s)
      (storeGpr scale form rn rt s h) :=
  checked rfl (ldstStep scale form rn fun a => State.memWrite_err s a _ _)

theorem loadGpr (scale : Nat) (form : AddrForm) (rn rt : RegIdx) (h : scale ≤ 3) :
    FaultsUnless s (!(isWriteback form && writebackConflict rn rt) && !spMisaligned rn s)
      (loadGpr scale form rn rt s h) :=
  checked rfl (ldstStep scale form rn fun _ => State.setGpr_err s rt _ _)

theorem storeSimd (scale : Nat) (form : AddrForm) (rn rt : RegIdx) (h : scale ≤ 4) :
    FaultsUnless s (!spMisaligned rn s) (storeSimd scale form rn rt s h) :=
  ldstStep scale form rn fun a => State.memWrite_err s a _ _

theorem loadSimd (scale : Nat) (form : AddrForm) (rn rt : RegIdx) (h : scale ≤ 4) :
    FaultsUnless s (!spMisaligned rn s) (loadSimd scale form rn rt s h) :=
  ldstStep scale form rn fun _ => State.setVpart_err s rt _ _

end FaultsUnless

/-- The base register of a load or store. -/
def InstrClass.base? : InstrClass → Option RegIdx
  | .ldstRegUnsignedImm _ _ _ _ rn _ => some rn
  | .ldstRegImmPost _ _ _ _ rn _ => some rn
  | .ldstRegImmPre _ _ _ _ rn _ => some rn
  | _ => none

/-- Cause 12: the instruction is a load or store that the SP alignment test of R78 stops. -/
def spStops (i : Instr) (s : State) : Bool := i.toClass.base?.any (spMisaligned · s)

/-- An instruction faults on its reserved field combinations and on a misaligned SP, and on nothing else. -/
theorem exec_faultsUnless (i : Instr) (s : State) : FaultsUnless s (i.wellFormed && !spStops i s) (exec i s) := by
  cases i with
  | addVector => exact .addVector ..
  | andVector | bicVector | orrVector | ornVector | eorVector | bslVector | bitVector | bifVector
  | aese | aesd | aesmc | aesimc => exact .next rfl
  | b | br | ret | nop => exact .next rfl
  | bl | blr => exact .next (State.writeX_err s 30#5 (s.pc + 4#64))
  | bCond | cbz | cbnz => exact .branchIf ..
  | strbOff | strhOff | strWOff | strXOff => exact .storeGpr _ (.unsignedOffset _) _ _ (by decide)
  | strbPost | strhPost | strWPost | strXPost => exact .storeGpr _ (.postIndex _) _ _ (by decide)
  | strbPre | strhPre | strWPre | strXPre => exact .storeGpr _ (.preIndex _) _ _ (by decide)
  | ldrbOff | ldrhOff | ldrWOff | ldrXOff => exact .loadGpr _ (.unsignedOffset _) _ _ (by decide)
  | ldrbPost | ldrhPost | ldrWPost | ldrXPost => exact .loadGpr _ (.postIndex _) _ _ (by decide)
  | ldrbPre | ldrhPre | ldrWPre | ldrXPre => exact .loadGpr _ (.preIndex _) _ _ (by decide)
  | strSimdBOff | strSimdHOff | strSimdSOff | strSimdDOff | strSimdQOff
  | strSimdBPost | strSimdHPost | strSimdSPost | strSimdDPost | strSimdQPost
  | strSimdBPre | strSimdHPre | strSimdSPre | strSimdDPre | strSimdQPre =>
    exact .storeSimd _ _ _ _ (by decide)
  | ldrSimdBOff | ldrSimdHOff | ldrSimdSOff | ldrSimdDOff | ldrSimdQOff
  | ldrSimdBPost | ldrSimdHPost | ldrSimdSPost | ldrSimdDPost | ldrSimdQPost
  | ldrSimdBPre | ldrSimdHPre | ldrSimdSPre | ldrSimdDPre | ldrSimdQPre =>
    exact .loadSimd _ _ _ _ (by decide)
  | addImm | subImm => exact .next (State.writeXSP_err s _ _)
  | addsImm | subsImm => exact .next (State.setGpr_err _ _ _ _)
  | movn | movz | movk => exact .moveWide ..
  | adr | adrp => exact .next (State.writeX_err s _ _)
  | addShifted | subShifted | addsShifted | subsShifted =>
    exact .checkAddSub _ _ _ (.next (State.setGpr_err _ _ _ _))
  | andShifted | bicShifted | orrShifted | ornShifted | eorShifted | eonShifted | andsShifted | bicsShifted =>
    exact .checkLogical _ _ (.next (State.setGpr_err _ _ _ _))

/-- Settles O23: a step executes or raises, and both answer a next state. -/
theorem stepCompletesOnEveryRunningState : Obligations.StepCompletesOnEveryRunningState := by
  have hexec (i : Instr) (s : State) : ∃ t, exec i s = .next t := (exec_faultsUnless i s).imp fun _ h => h.1
  refine ⟨fun s herr => ?_, hexec⟩
  cases hd : fetchDecode s with
  | instr i => exact (hexec i s).imp fun _ ht => (step_of_fetchDecode herr hd).trans ht
  | reject site => exact ⟨_, step_of_reject herr hd⟩

end Sys2Proof
end

section
/-! SUPPORT and PROOFS. The sixteen causes of a fault (spec/60_exceptions.md R305): what `wordCause` and `spBased` read
off the bits of a word is what the decoder rejects and the instructions check. Words that fit a class are followed
through the patterns of `wordCause`, which conflict with that of every other class. -/

namespace Sys2Proof

open Machine

/-! ## The fault of a decoded word -/

/-- The fault that a decoded word takes for a reason of its own: that of the site which rejects it, or Illegal for a
reserved field combination (R305, causes 2 to 11 and 13 to 16). -/
def Decoded.cause : Decoded → Option FaultKind
  | .instr i => if i.wellFormed then none else some .illegal
  | .reject site => some (faultKind site)

/-- The fault of an instruction with one test for its reserved combinations, the test read as a proposition. -/
theorem Decoded.cause_instr {i : Instr} {reserved : Bool} (hwf : i.wellFormed = !reserved) {p : Prop} [Decidable p]
    (hp : reserved = true ↔ p) : (Decoded.instr i).cause = if p then some .illegal else none := by
  cases reserved <;> simp_all [Decoded.cause]

theorem moveWideHwReserved_iff_bit {sf : BitVec 1} {hw : BitVec 2} :
    moveWideHwReserved sf hw = true ↔ sf = 0#1 ∧ hw.getLsbD 1 = true := by
  rw [moveWideHwReserved, Bool.and_eq_true, beq_iff_eq]

theorem amountReserved_iff_bit {sf : BitVec 1} {imm6 : BitVec 6} :
    amountReserved sf imm6 = true ↔ sf = 0#1 ∧ imm6.getLsbD 5 = true := by
  rw [amountReserved, Bool.and_eq_true, beq_iff_eq]

section
variable {sf op sBit q u v n : BitVec 1} {size opc shift hw : BitVec 2} {opcode op2 op4 : BitVec 5}
  {op3 imm6 : BitVec 6} {rm rn rd rt : RegIdx}

theorem cause_selectThreeSame : (selectThreeSame q u size rm opcode rn rd).cause =
    if opcode = 0b10000#5 ∧ u = 0#1 then if size = 3#2 ∧ q = 0#1 then some .illegal else none
    else if opcode = 0b00011#5 then none
    else some .unimplemented := by
  simp only [selectThreeSame, and_comm (a := u = 0#1)]
  split
  · exact Decoded.cause_instr rfl addVectorReserved_iff
  · split
    · split_ifs <;> rfl
    · rfl

theorem cause_selectAes : (selectAes size opcode rn rd).cause =
    if size = 0#2 ∧ opcode.extractLsb' 2 3 = 1#3 then none else some .unimplemented := by
  have hall : ∀ opcode : BitVec 5, opcode.extractLsb' 2 3 = 1#3 ↔
      opcode = 0b00100#5 ∨ opcode = 0b00101#5 ∨ opcode = 0b00110#5 ∨ opcode = 0b00111#5 := by decide
  simp only [selectAes, hall, ite_and, ite_or]
  split_ifs <;> rfl

theorem cause_selectBranchReg {opc : BitVec 4} : (selectBranchReg opc op2 op3 rn op4).cause =
    if (op2 = 0b11111#5 ∧ op3 = 0#6 ∧ op4 = 0#5) ∧ (opc = 0#4 ∨ opc = 1#4 ∨ opc = 2#4) then none
    else some .unimplemented := by
  simp only [selectBranchReg, ite_and, ite_or]
  split_ifs <;> rfl

theorem cause_selectMoveWide {imm16 : BitVec 16} : (selectMoveWide sf opc hw imm16 rd).cause =
    if opc = 1#2 then some .illegal else if sf = 0#1 ∧ hw.getLsbD 1 = true then some .illegal else none := by
  obtain rfl | rfl | rfl | rfl := two_bit_cases opc
  · exact Decoded.cause_instr rfl moveWideHwReserved_iff_bit
  · rfl
  · exact Decoded.cause_instr rfl moveWideHwReserved_iff_bit
  · exact Decoded.cause_instr rfl moveWideHwReserved_iff_bit

theorem cause_selectAddSubShifted : (selectAddSubShifted sf op sBit shift rm imm6 rn rd).cause =
    if shift = 3#2 then some .illegal else if sf = 0#1 ∧ imm6.getLsbD 5 = true then some .illegal else none := by
  have hreserved : (addSubShiftReserved shift || amountReserved sf imm6) = true ↔
      shift = 3#2 ∨ sf = 0#1 ∧ imm6.getLsbD 5 = true := by
    rw [Bool.or_eq_true, addSubShiftReserved_iff, amountReserved_iff_bit]
  rw [← ite_or]
  obtain rfl | rfl := bit_cases op <;> obtain rfl | rfl := bit_cases sBit <;> exact Decoded.cause_instr rfl hreserved

theorem cause_selectLogicalShifted : (selectLogicalShifted sf opc shift n rm imm6 rn rd).cause =
    if sf = 0#1 ∧ imm6.getLsbD 5 = true then some .illegal else none := by
  obtain rfl | rfl | rfl | rfl := two_bit_cases opc <;> obtain rfl | rfl := bit_cases n <;>
    exact Decoded.cause_instr rfl amountReserved_iff_bit

/-- The fault of a load or store word whose fields name no operation (R305, causes 9 and 10). -/
def opCause : Sum FaultSite LdstOp → Option FaultKind
  | .inl site => some (faultKind site)
  | .inr _ => none

theorem wellFormed_ldstInstr (op : LdstOp) (form : AddrForm) (rn rt : RegIdx) :
    (ldstInstr rn rt op form).wellFormed =
      !(isWriteback form && op.opFields.2.1 == 0#1 && writebackConflict rn rt) := by
  cases op <;> cases form <;> rfl

theorem writebackConflict_iff : writebackConflict rn rt = true ↔ rn = rt ∧ rn ≠ 31#5 := by
  simp [writebackConflict]

theorem cause_selectLdst (form : AddrForm) : (selectLdst size v opc form rn rt).cause =
    (opCause (selectLdstOp size v opc)).or
      (if isWriteback form = true ∧ v = 0#1 ∧ rn = rt ∧ rn ≠ 31#5 then some .illegal else none) := by
  rw [selectLdst]
  cases hop : selectLdstOp size v opc with
  | inl site => rfl
  | inr op =>
    refine Decoded.cause_instr (wellFormed_ldstInstr op form rn rt) ?_
    rw [opFields_of_selectLdstOp hop, Bool.and_eq_true, Bool.and_eq_true, beq_iff_eq, writebackConflict_iff, and_assoc]

end

/-! ## Bits and fields of a word -/

theorem getLsbD_field (w : InstrWord) {lo len i : Nat} (hi : i < len) :
    (field lo len w).getLsbD i = w.getLsbD (lo + i) := by
  simp [field, hi]

theorem field_one_eq_zero_iff (w : InstrWord) (k : Nat) : field k 1 w = 0#1 ↔ w.getLsbD k = false := by
  have hall : ∀ b : BitVec 1, b = 0#1 ↔ b.getLsbD 0 = false := by decide
  rw [hall, getLsbD_field w Nat.one_pos, Nat.add_zero]

/-- Bits that two patterns fix differently keep a word from fitting both. -/
theorem not_fits_of_conflict {w m p m' p' : InstrWord} (h : w &&& m = p)
    (hconflict : m &&& m' &&& (p ^^^ p') ≠ 0#32) : w &&& m' = p' ↔ False := by
  refine ⟨fun h' => hconflict ?_, False.elim⟩
  subst h h'
  apply BitVec.eq_of_getLsbD_eq
  intro i hi
  simp only [BitVec.getLsbD_and, BitVec.getLsbD_xor, BitVec.getLsbD_zero]
  cases w.getLsbD i <;> cases m.getLsbD i <;> cases m'.getLsbD i <;> rfl

/-- A pattern whose bits another one fixes alike is fitted by every word that fits the other. -/
theorem fits_of_covers {w m p m' p' : InstrWord} (h : w &&& m = p) (hm : m &&& m' = m') (hp : p &&& m' = p') :
    w &&& m' = p' := by
  rw [← hp, ← h, BitVec.and_assoc, hm]

/-- The post-index and the pre-index class differ in bit 11 alone. -/
theorem fits_immIndexed_iff {w : InstrWord} : w &&& 0x3B200400#32 = 0x38000400#32 ↔
    w &&& 0x3B200C00#32 = 0x38000400#32 ∨ w &&& 0x3B200C00#32 = 0x38000C00#32 := by
  constructor
  · intro h
    have hbit : w &&& 0x800#32 = if w.getLsbD 11 then 0x800#32 else 0#32 := BitVec.and_twoPow w 11
    have hsplit : w &&& 0x3B200C00#32 = w &&& 0x3B200400#32 ||| w &&& 0x800#32 :=
      BitVec.and_or_distrib_left (y := 0x3B200400#32) (z := 0x800#32)
    rw [hsplit, h, hbit]
    cases w.getLsbD 11
    · exact .inl rfl
    · exact .inr rfl
  · rintro (h | h) <;> exact fits_of_covers h (by decide) (by decide)

theorem encodeClass_inj {c d : InstrClass} (hc : c.tag ≠ .unsupported) (hd : d.tag ≠ .unsupported) :
    encodeClass c = encodeClass d ↔ c = d := by
  refine ⟨fun h => ?_, congrArg encodeClass⟩
  rw [← decodeClass_encodeClass hc, h, decodeClass_encodeClass hd]

/-! ## The causes of a word, class by class -/

section
variable {w : InstrWord}

theorem ldstCause_eq (w : InstrWord) :
    ldstCause w = opCause (selectLdstOp (field 30 2 w) (field 26 1 w) (field 22 2 w)) := by
  have h23 : w.getLsbD 23 = (field 22 2 w).getLsbD 1 := (getLsbD_field w (by decide : 1 < 2)).symm
  have h26 : w.getLsbD 26 = (field 26 1 w).getLsbD 0 := (getLsbD_field w (by decide : 0 < 1)).symm
  have hall : ∀ (size : BitVec 2) (v : BitVec 1) (opc : BitVec 2),
      opCause (selectLdstOp size v opc) =
        if v.getLsbD 0 then if opc.getLsbD 1 ∧ size ≠ 0#2 then some .illegal else none
        else if opc.getLsbD 1 then some .unimplemented else none := by decide
  rw [ldstCause, h23, h26, hall]

theorem writebackCause_eq (w : InstrWord) : writebackCause w =
    if field 26 1 w = 0#1 ∧ field 5 5 w = field 0 5 w ∧ field 5 5 w ≠ 31#5 then some .illegal else none := by
  simp only [writebackCause, field_one_eq_zero_iff]

theorem branchReg_pattern_iff {w : InstrWord} (h : w &&& 0xFE000000#32 = 0xD6000000#32) (k : BitVec 4) :
    w &&& 0xFFFFFC1F#32 = encodeClass (.uncondBranchReg k 0b11111#5 0#6 0#5 0#5) ↔
      (field 16 5 w = 0b11111#5 ∧ field 10 6 w = 0#6 ∧ field 0 5 w = 0#5) ∧ field 21 4 w = k := by
  have hw : encodeClass (cutFields w .uncondBranchReg) = w :=
    encodeClass_cutFields (r := ⟨.uncondBranchReg, 0xFE000000#32, 0xD6000000#32⟩) (by decide) (beq_iff_eq.mpr h)
  have hmask := encodeClass_and_selectorMask true (cutFields w .uncondBranchReg)
  rw [hw] at hmask
  have hsel : w &&& 0xFFFFFC1F#32 = encodeClass ((cutFields w .uncondBranchReg).selector true) := hmask
  rw [hsel, encodeClass_inj ClassTag.noConfusion ClassTag.noConfusion]
  simp only [cutFields, InstrClass.selector, InstrClass.uncondBranchReg.injEq, true_and]
  tauto

theorem hints_pattern_iff {w : InstrWord} (h : w &&& 0xFFFFF01F#32 = 0xD503201F#32) :
    w = 0xD503201F#32 ↔ field 8 4 w = 0#4 ∧ field 5 3 w = 0#3 := by
  have hw : encodeClass (cutFields w .hints) = w :=
    encodeClass_cutFields (r := ⟨.hints, 0xFFFFF01F#32, 0xD503201F#32⟩) (by decide) (beq_iff_eq.mpr h)
  have hnop : (0xD503201F#32 : InstrWord) = encodeClass (.hints 0#4 0#3) := by decide
  conv_lhs => rw [← hw, hnop, encodeClass_inj ClassTag.noConfusion ClassTag.noConfusion]
  simp only [cutFields, InstrClass.hints.injEq]

theorem wordCause_threeSame (h : w &&& 0x9F200400#32 = 0x0E200400#32) :
    wordCause w = (selectInstr (cutFields w .advSimdThreeSame)).cause := by
  simp only [wordCause, if_pos h, cutFields, selectInstr, cause_selectThreeSame, field_one_eq_zero_iff]

theorem wordCause_aes (h : w &&& 0xFF3E0C00#32 = 0x4E280800#32) :
    wordCause w = (selectInstr (cutFields w .cryptoAes)).cause := by
  have hop : (field 12 5 w).extractLsb' 2 3 = field 14 3 w := by
    apply BitVec.eq_of_getLsbD_eq
    intro i hi
    simp [field, hi, show 2 + i < 5 by omega, ← Nat.add_assoc]
  simp (disch := decide) only [wordCause, not_fits_of_conflict h, if_pos h, if_false, cutFields, selectInstr,
    cause_selectAes, hop]

theorem wordCause_condBranch (h : w &&& 0xFE000000#32 = 0x54000000#32) :
    wordCause w = (selectInstr (cutFields w .condBranchImm)).cause := by
  simp (disch := decide) only [wordCause, not_fits_of_conflict h, if_pos h, if_false, cutFields, selectInstr,
    field_one_eq_zero_iff]
  cases w.getLsbD 24 <;> cases w.getLsbD 4 <;> rfl

theorem wordCause_branchReg (h : w &&& 0xFE000000#32 = 0xD6000000#32) :
    wordCause w = (selectInstr (cutFields w .uncondBranchReg)).cause := by
  have hbr : w &&& 0xFFFFFC1F#32 = 0xD61F0000#32 ↔ _ := branchReg_pattern_iff h 0#4
  have hblr : w &&& 0xFFFFFC1F#32 = 0xD63F0000#32 ↔ _ := branchReg_pattern_iff h 1#4
  have hret : w &&& 0xFFFFFC1F#32 = 0xD65F0000#32 ↔ _ := branchReg_pattern_iff h 2#4
  simp (disch := decide) only [wordCause, not_fits_of_conflict h, if_pos h, if_false, cutFields, selectInstr,
    cause_selectBranchReg, hbr, hblr, hret, ← and_or_left]

theorem wordCause_hints (h : w &&& 0xFFFFF01F#32 = 0xD503201F#32) :
    wordCause w = (selectInstr (cutFields w .hints)).cause := by
  simp (disch := decide) only [wordCause, not_fits_of_conflict h, if_pos h, if_false, cutFields, selectInstr,
    hints_pattern_iff h]
  split_ifs <;> rfl

theorem wordCause_ldstUnsignedImm (h : w &&& 0x3B000000#32 = 0x39000000#32) :
    wordCause w = (selectInstr (cutFields w .ldstRegUnsignedImm)).cause := by
  simp (disch := decide) only [wordCause, not_fits_of_conflict h, if_pos h, if_false, cutFields, selectInstr,
    cause_selectLdst, ldstCause_eq, isWriteback, false_and, Bool.false_eq_true, Option.or_none]

theorem wordCause_immIndexed (h : w &&& 0x3B200400#32 = 0x38000400#32) :
    wordCause w = (ldstCause w).or (writebackCause w) := by
  simp (disch := decide) only [wordCause, not_fits_of_conflict h, if_pos h, if_false]
  cases ldstCause w <;> rfl

theorem wordCause_ldstPost (h : w &&& 0x3B200C00#32 = 0x38000400#32) :
    wordCause w = (selectInstr (cutFields w .ldstRegImmPost)).cause := by
  rw [wordCause_immIndexed (fits_immIndexed_iff.mpr (.inl h)), ldstCause_eq, writebackCause_eq]
  simp only [cutFields, selectInstr, cause_selectLdst, isWriteback, true_and]

theorem wordCause_ldstPre (h : w &&& 0x3B200C00#32 = 0x38000C00#32) :
    wordCause w = (selectInstr (cutFields w .ldstRegImmPre)).cause := by
  rw [wordCause_immIndexed (fits_immIndexed_iff.mpr (.inr h)), ldstCause_eq, writebackCause_eq]
  simp only [cutFields, selectInstr, cause_selectLdst, isWriteback, true_and]

theorem wordCause_moveWide (h : w &&& 0x1F800000#32 = 0x12800000#32) :
    wordCause w = (selectInstr (cutFields w .moveWide)).cause := by
  have hbit : (field 21 2 w).getLsbD 1 = w.getLsbD 22 := getLsbD_field w (by decide : 1 < 2)
  simp (disch := decide) only [wordCause, not_fits_of_conflict h, if_pos h, if_false, cutFields, selectInstr,
    cause_selectMoveWide, field_one_eq_zero_iff, hbit]

theorem wordCause_addSubShifted (h : w &&& 0x1F200000#32 = 0x0B000000#32) :
    wordCause w = (selectInstr (cutFields w .addSubShifted)).cause := by
  have hbit : (field 10 6 w).getLsbD 5 = w.getLsbD 15 := getLsbD_field w (by decide : 5 < 6)
  simp (disch := decide) only [wordCause, not_fits_of_conflict h, if_pos h, if_false, cutFields, selectInstr,
    cause_selectAddSubShifted, field_one_eq_zero_iff, hbit]

theorem wordCause_logicalShifted (h : w &&& 0x1F000000#32 = 0x0A000000#32) :
    wordCause w = (selectInstr (cutFields w .logicalShifted)).cause := by
  have hbit : (field 10 6 w).getLsbD 5 = w.getLsbD 15 := getLsbD_field w (by decide : 5 < 6)
  simp (disch := decide) only [wordCause, not_fits_of_conflict h, if_pos h, if_false, cutFields, selectInstr,
    cause_selectLogicalShifted, field_one_eq_zero_iff, hbit]

theorem wordCause_uncondBranchImm (h : w &&& 0x7C000000#32 = 0x14000000#32) :
    wordCause w = (selectInstr (cutFields w .uncondBranchImm)).cause := by
  simp (disch := decide) only [wordCause, not_fits_of_conflict h, if_pos h, if_false, cutFields, selectInstr]
  split_ifs <;> rfl

theorem wordCause_compareBranch (h : w &&& 0x7E000000#32 = 0x34000000#32) :
    wordCause w = (selectInstr (cutFields w .compareBranch)).cause := by
  simp (disch := decide) only [wordCause, not_fits_of_conflict h, if_pos h, if_false, cutFields, selectInstr]
  split_ifs <;> rfl

theorem wordCause_addSubImm (h : w &&& 0x1F800000#32 = 0x11000000#32) :
    wordCause w = (selectInstr (cutFields w .addSubImm)).cause := by
  simp (disch := decide) only [wordCause, not_fits_of_conflict h, if_pos h, if_false, cutFields, selectInstr,
    selectAddSubImm]
  split_ifs <;> rfl

theorem wordCause_pcRel (h : w &&& 0x1F000000#32 = 0x10000000#32) :
    wordCause w = (selectInstr (cutFields w .pcRel)).cause := by
  simp (disch := decide) only [wordCause, not_fits_of_conflict h, if_pos h, if_false, cutFields, selectInstr]
  split_ifs <;> rfl

theorem wordCause_of_fits_none (h : ∀ r ∈ classTable, r.fits w = false) : wordCause w = some .unimplemented := by
  simp only [classTable, List.forall_mem_cons, ClassRow.fits, beq_eq_false_iff_ne] at h
  simp [wordCause, fits_immIndexed_iff, h]

/-- The class of a word decides which of its bits `wordCause` reads. -/
theorem wordCause_of_fits {r : ClassRow} (hr : r ∈ classTable) (h : r.fits w = true) :
    wordCause w = (selectInstr (cutFields w r.tag)).cause := by
  rw [ClassRow.fits, beq_iff_eq] at h
  simp only [classTable, List.mem_cons, List.not_mem_nil, or_false] at hr
  rcases hr with rfl | rfl | rfl | rfl | rfl | rfl | rfl | rfl | rfl | rfl | rfl | rfl | rfl | rfl | rfl
  · exact wordCause_threeSame h
  · exact wordCause_aes h
  · exact wordCause_uncondBranchImm h
  · exact wordCause_condBranch h
  · exact wordCause_compareBranch h
  · exact wordCause_branchReg h
  · exact wordCause_hints h
  · exact wordCause_ldstUnsignedImm h
  · exact wordCause_ldstPost h
  · exact wordCause_ldstPre h
  · exact wordCause_addSubImm h
  · exact wordCause_moveWide h
  · exact wordCause_pcRel h
  · exact wordCause_addSubShifted h
  · exact wordCause_logicalShifted h

/-- Every word fits a row of the class table, or none. -/
theorem fits_cases (w : InstrWord) :
    (∃ r ∈ classTable, r.fits w = true) ∨ ∀ r ∈ classTable, r.fits w = false := by
  simp [or_iff_not_imp_left]

/-- The word-dependent causes of R305 are those the decoder and the reserved field combinations raise. -/
theorem wordCause_eq_cause_decode (w : InstrWord) : wordCause w = (decode w).cause := by
  rw [decode]
  obtain ⟨r, hr, h⟩ | h := fits_cases w
  · rw [wordCause_of_fits hr h, decodeClass_of_fits hr h]
  · rw [wordCause_of_fits_none h, decodeClass_of_fits_none h]
    rfl

/-! ## Cause 12: a load or store on a misaligned SP -/

theorem spBased_iff_fits : spBased w = true ↔
    (w &&& 0x3B000000#32 = 0x39000000#32 ∨ w &&& 0x3B200400#32 = 0x38000400#32) ∧ field 5 5 w = 31#5 := by
  simp only [spBased, Bool.and_eq_true, Bool.or_eq_true, beq_iff_eq]

/-- The two patterns of `spBased` are those of the three classes whose values have a base register. -/
theorem spBased_iff (w : InstrWord) : spBased w = true ↔ (decodeClass w).base? = some 31#5 := by
  rw [spBased_iff_fits]
  obtain ⟨r, hr, h⟩ | h := fits_cases w
  · rw [decodeClass_of_fits hr h]
    rw [ClassRow.fits, beq_iff_eq] at h
    simp only [classTable, List.mem_cons, List.not_mem_nil, or_false] at hr
    rcases hr with rfl | rfl | rfl | rfl | rfl | rfl | rfl | rfl | rfl | rfl | rfl | rfl | rfl | rfl | rfl <;>
      simp (disch := decide) only [fits_immIndexed_iff, not_fits_of_conflict h, h, cutFields, InstrClass.base?, or_self,
        or_true, true_or, false_and, true_and, reduceCtorEq, Option.some.injEq]
  · rw [decodeClass_of_fits_none h]
    simp only [classTable, List.forall_mem_cons, ClassRow.fits, beq_eq_false_iff_ne] at h
    simp [fits_immIndexed_iff, h, InstrClass.base?]

end

theorem spMisaligned_iff {rn : RegIdx} {s : State} : spMisaligned rn s = true ↔
    Config.spAlignCheck = true ∧ s.sp.toNat % 16 ≠ 0 ∧ rn = 31#5 := by
  constructor
  · intro h
    have hnot : ¬ spAligned rn s := fun hal => Bool.false_ne_true ((spMisaligned_of_aligned hal).symm.trans h)
    simp only [spAligned, Classical.not_imp] at hnot
    obtain ⟨hcheck, hrn, hsp⟩ := hnot
    exact ⟨hcheck, hsp, hrn⟩
  · rintro ⟨hcheck, hsp, rfl⟩
    exact (spMisaligned_sp hsp).trans hcheck

theorem spStops_iff {i : Instr} {s : State} : spStops i s = true ↔
    Config.spAlignCheck = true ∧ s.sp.toNat % 16 ≠ 0 ∧ i.toClass.base? = some 31#5 := by
  rw [spStops]
  cases i.toClass.base? with
  | none => simp
  | some rn => simp only [Option.any_some, spMisaligned_iff, Option.some.injEq]

/-! ## The cause of a step -/

section
variable {s : State}

theorem pcMisaligned_iff : pcMisaligned s = true ↔ Config.pcAlignCheck = true ∧ s.pc.toNat % 4 ≠ 0 := by
  by_cases hpc : s.pc.toNat % 4 = 0
  · simp [pcMisaligned_of_aligned hpc, hpc]
  · simp [pcMisaligned_of_misaligned hpc, hpc]

theorem stepCause_of_misaligned (h : pcMisaligned s = true) : stepCause s = some .illegal :=
  if_pos (pcMisaligned_iff.mp h)

theorem stepCause_of_reject (hpc : ¬ pcMisaligned s = true) {site : FaultSite}
    (hd : decode (s.memRead s.pc 4) = .reject site) : stepCause s = some (faultKind site) := by
  rw [stepCause, if_neg (mt pcMisaligned_iff.mpr hpc), wordCause_eq_cause_decode, hd]
  rfl

theorem stepCause_of_instr (hpc : ¬ pcMisaligned s = true) {i : Instr}
    (hd : decode (s.memRead s.pc 4) = .instr i) :
    stepCause s = if i.wellFormed && !spStops i s then none else some .illegal := by
  have hsp : spStops i s = true ↔
      Config.spAlignCheck = true ∧ s.sp.toNat % 16 ≠ 0 ∧ spBased (s.memRead s.pc 4) = true := by
    rw [spStops_iff, selectInstr_eq_instr_iff.mp hd, spBased_iff]
  rw [stepCause, if_neg (mt pcMisaligned_iff.mpr hpc), wordCause_eq_cause_decode, hd, Decoded.cause]
  cases i.wellFormed with
  | false => rfl
  | true =>
    simp only [if_true, ← hsp]
    cases spStops i s <;> rfl

end

/-- Settles O32: where the pc test passes, the word's own cause decides, and the instruction it decodes to faults on
its reserved combinations and on SP alone. -/
theorem faultCausesAreComplete : Obligations.FaultCausesAreComplete := by
  intro s t h
  obtain ⟨herr, hcases⟩ := step_cases h
  by_cases hpc : pcMisaligned s = true
  · rw [fetchDecode_of_misaligned hpc] at hcases
    obtain ⟨site, hsite, rfl⟩ | ⟨i, hi, -⟩ := hcases
    · cases hsite
      exact (stepCause_of_misaligned hpc).symm
    · cases hi
  · rw [fetchDecode_of_not_misaligned hpc] at hcases
    obtain ⟨site, hsite, rfl⟩ | ⟨i, hi, hexec⟩ := hcases
    · exact (kind_errOf site).trans (stepCause_of_reject hpc hsite).symm
    · obtain ⟨u, hu, hkind⟩ := exec_faultsUnless i s
      obtain rfl := next_inj.mp (hu.symm.trans hexec)
      rw [hkind, herr, stepCause_of_instr hpc hi]
      rfl

end Sys2Proof
end

section
/-! SUPPORT and PROOFS. The loading of a program and the step that runs it (spec/70_reset_and_hazards.md R340, R342,
R345): what each address reads after a load, the bytes of a program, and the fetch of a word among them. -/

namespace Sys2Proof.Machine

/-! ## The bytes of a load (R340) -/

/-- What each address reads after a load: the byte of the list at its offset from the base, and what it read before
where the offset is past the end of the list. -/
theorem State.readByte_loadBytes {s : State} (hs : s.Inv) (base : Word) {bs : List Byte} (hlen : bs.length ≤ 2 ^ 64)
    (r : Word) : (s.loadBytes base bs).readByte r = bs.getD (r - base).toNat (s.readByte r) := by
  induction bs generalizing s base with
  | nil => rfl
  | cons b bs ih =>
    rw [List.length_cons] at hlen
    rw [State.loadBytes, ih (State.wf_writeByte hs base b) (base + 1#64) (by omega)]
    by_cases hr : r = base
    · subst hr
      have hpast : bs.length ≤ (r - (r + 1#64)).toNat := by bv_omega
      rw [List.getD_eq_default _ _ hpast, State.readByte_writeByte_same hs, BitVec.sub_self]
      rfl
    · have hoff : (r - base).toNat = (r - (base + 1#64)).toNat + 1 := by bv_omega
      rw [State.readByte_writeByte_other s hr, hoff, List.getD_cons_succ]

/-! ## The bytes of a program (R342) -/

theorem length_programBytes (ws : List InstrWord) : (programBytes ws).length = 4 * ws.length := by
  induction ws with
  | nil => rfl
  | cons w ws ih =>
    simp only [programBytes, List.length_cons, ih]
    omega

theorem getElem?_programBytes_cons {w : InstrWord} {ws : List InstrWord} {k : Nat} (hk : k < 4) :
    (programBytes (w :: ws))[k]? = some (elem 8 w k) := by
  interval_cases k <;> rfl

/-- Byte `k` of word `i` is byte `4 * i + k` of the program. -/
theorem getElem?_programBytes {ws : List InstrWord} {i k : Nat} (hi : i < ws.length) (hk : k < 4) :
    (programBytes ws)[4 * i + k]? = some (elem 8 ws[i] k) := by
  induction ws generalizing i with
  | nil => exact absurd hi (Nat.not_lt_zero i)
  | cons w ws ih =>
    cases i with
    | zero => rw [Nat.mul_zero, Nat.zero_add, getElem?_programBytes_cons hk, List.getElem_cons_zero]
    | succ i =>
      have hskip : 4 * (i + 1) + k = 4 * i + k + 4 := by omega
      rw [hskip, List.getElem_cons_succ]
      exact ih (Nat.lt_of_succ_lt_succ hi)

/-! ## The statements -/

/-- Settles O19: byte `k` of the word fetched is at offset `4 * i + k` from the base, and that byte of the program is
byte `k` of word `i`. -/
theorem loadedWordsAreFetched : Obligations.LoadedWordsAreFetched := by
  intro s base ws hs hsize i hi
  refine State.memRead_eq_iff.mpr fun k hk => ?_
  have hlen : (programBytes ws).length ≤ 2 ^ 64 := (length_programBytes ws).le.trans hsize
  have hoff : (base + BitVec.ofNat 64 (4 * i) + BitVec.ofNat 64 k - base).toNat = 4 * i + k := by
    rw [BitVec.add_assoc, ← BitVec.ofNat_add, toNat_add_ofNat_sub base (by omega)]
  rw [State.loadWords, State.readByte_loadBytes hs base hlen, hoff, List.getD_eq_getElem?_getD,
    getElem?_programBytes hi hk, Option.getD_some]

/-- Settles O28: the pc test passes, and the word at pc is made of the four bytes there. -/
theorem stepRunsTheDecodedInstruction : Obligations.StepRunsTheDecodedInstruction := by
  intro s i herr hpc hdec
  have hfetch : fetchDecode s = .instr i := by
    rw [fetchDecode_of_aligned hpc, s.wordAt_eq_wordOfBytes]
    exact hdec
  exact step_of_fetchDecode herr hfetch

end Sys2Proof.Machine
end
